-- ==== Sys2Proof/Word.lean ====
section
/-! DEFINITION. The two widths of the block (`00_scope.md` R6, R9): bytes and 16-bit words. -/

namespace Sys2Proof

/-- u8: an 8-bit unsigned value, wrapping modulo 2^8 (R9). -/
abbrev Byte := BitVec 8

/-- u16: a 16-bit unsigned value, wrapping modulo 2^16 (R9); also a byte address (R60). -/
abbrev Word := BitVec 16

end Sys2Proof
end

