-- ==== Sys2Proof/WellFormed.lean ====
section
/-! DEFINITION. Which terms of `Instr` stand for an encoded instruction. -/

namespace Sys2Proof

/-- The one check: `prefixCB` is the row of the prefix byte, which "is never an instruction by itself"
(`30_encoding.md` R123). Every operand value of every other row is encodable, by its type. -/
def Instr.wellFormed (i : Instr) : Bool := decide (i ≠ .prefixCB)

end Sys2Proof
end

