-- ==== Sys2Proof/Decode.lean ====
section
/-! DEFINITION. The decoder (`30_encoding.md` sections 2 to 5): byte helpers, opcode fields, operand tables, the rows
of the opcode table by family and operand, the two opcode maps, the list decoder, the descriptor of each instruction
(byte, length, cycles, mnemonic template, R126) and the encoder written from the descriptors. -/

namespace Sys2Proof

/-! ## Bytes and words (`00_scope.md` R9, R10; `20_memory.md` R69) -/

/-- `v[15:8]`. -/
def hiByte (v : Word) : Byte := v.extractLsb' 8 8

/-- `v[7:0]`. -/
def loByte (v : Word) : Byte := v.extractLsb' 0 8

/-- `hi ++ lo` (R9). -/
def joinBytes (hi lo : Byte) : Word := hi ++ lo

/-- `zext_16(v)` (R10). -/
def zext16 (v : Byte) : Word := v.setWidth 16

/-- `sext_16(v)` (R10). -/
def sext16 (v : Byte) : Word := v.signExtend 16

/-! ## Opcode fields (`30_encoding.md` R105) -/

/-- `x = op[7:6]`. -/
def fieldX (op : Byte) : Nat := op.toNat / 64

/-- `y = op[5:3]`. -/
def fieldY (op : Byte) : Nat := op.toNat / 8 % 8

/-- `z = op[2:0]`. -/
def fieldZ (op : Byte) : Nat := op.toNat % 8

/-- `p = op[5:4]`. -/
def fieldP (op : Byte) : Nat := op.toNat / 16 % 4

/-- `q = op[3]`. -/
def fieldQ (op : Byte) : Nat := op.toNat / 8 % 2

/-! ## Operand tables (`30_encoding.md` R110-R115); a field value past the last listed one is the last one -/

/-- R110. -/
def operand8Of : Nat → Operand8
  | 0 => .reg .b
  | 1 => .reg .c
  | 2 => .reg .d
  | 3 => .reg .e
  | 4 => .reg .h
  | 5 => .reg .l
  | 6 => .atHL
  | _ => .reg .a

/-- R111. -/
def r16Of : Nat → R16
  | 0 => .bc
  | 1 => .de
  | 2 => .hl
  | _ => .sp

/-- R112. -/
def r16StkOf : Nat → R16Stk
  | 0 => .bc
  | 1 => .de
  | 2 => .hl
  | _ => .af

/-- R113. -/
def condOf : Nat → Cond
  | 0 => .nz
  | 1 => .z
  | 2 => .nc
  | _ => .c

/-- R114. -/
def aluOf : Nat → AluOp
  | 0 => .add
  | 1 => .adc
  | 2 => .sub
  | 3 => .sbc
  | 4 => .and
  | 5 => .xor
  | 6 => .or
  | _ => .cp

/-- R115. -/
def rotOf : Nat → RotOp
  | 0 => .rlc
  | 1 => .rrc
  | 2 => .rl
  | 3 => .rr
  | 4 => .sla
  | 5 => .sra
  | 6 => .swap
  | _ => .srl

/-- R116, z = 2: the address operand for p = 0..3. -/
def indirectAOf : Nat → IndirectA
  | 0 => .bc
  | 1 => .de
  | 2 => .hli
  | _ => .hld

/-- The bit index b of the extended table (R106). -/
def bitOf (y : Nat) : Fin 8 := Fin.ofNat 8 y

/-! ## The rows of the table by family and operand: which constructor is which row -/

/-- LD r,r'; LD r,(HL); LD (HL),r (R117); the slot LD (HL),(HL) is HALT. -/
def rowLd8 : Operand8 → Operand8 → Instr
  | .reg .b, .reg .b => .ld_b_b
  | .reg .b, .reg .c => .ld_b_c
  | .reg .b, .reg .d => .ld_b_d
  | .reg .b, .reg .e => .ld_b_e
  | .reg .b, .reg .h => .ld_b_h
  | .reg .b, .reg .l => .ld_b_l
  | .reg .b, .atHL => .ld_b_atHL
  | .reg .b, .reg .a => .ld_b_a
  | .reg .c, .reg .b => .ld_c_b
  | .reg .c, .reg .c => .ld_c_c
  | .reg .c, .reg .d => .ld_c_d
  | .reg .c, .reg .e => .ld_c_e
  | .reg .c, .reg .h => .ld_c_h
  | .reg .c, .reg .l => .ld_c_l
  | .reg .c, .atHL => .ld_c_atHL
  | .reg .c, .reg .a => .ld_c_a
  | .reg .d, .reg .b => .ld_d_b
  | .reg .d, .reg .c => .ld_d_c
  | .reg .d, .reg .d => .ld_d_d
  | .reg .d, .reg .e => .ld_d_e
  | .reg .d, .reg .h => .ld_d_h
  | .reg .d, .reg .l => .ld_d_l
  | .reg .d, .atHL => .ld_d_atHL
  | .reg .d, .reg .a => .ld_d_a
  | .reg .e, .reg .b => .ld_e_b
  | .reg .e, .reg .c => .ld_e_c
  | .reg .e, .reg .d => .ld_e_d
  | .reg .e, .reg .e => .ld_e_e
  | .reg .e, .reg .h => .ld_e_h
  | .reg .e, .reg .l => .ld_e_l
  | .reg .e, .atHL => .ld_e_atHL
  | .reg .e, .reg .a => .ld_e_a
  | .reg .h, .reg .b => .ld_h_b
  | .reg .h, .reg .c => .ld_h_c
  | .reg .h, .reg .d => .ld_h_d
  | .reg .h, .reg .e => .ld_h_e
  | .reg .h, .reg .h => .ld_h_h
  | .reg .h, .reg .l => .ld_h_l
  | .reg .h, .atHL => .ld_h_atHL
  | .reg .h, .reg .a => .ld_h_a
  | .reg .l, .reg .b => .ld_l_b
  | .reg .l, .reg .c => .ld_l_c
  | .reg .l, .reg .d => .ld_l_d
  | .reg .l, .reg .e => .ld_l_e
  | .reg .l, .reg .h => .ld_l_h
  | .reg .l, .reg .l => .ld_l_l
  | .reg .l, .atHL => .ld_l_atHL
  | .reg .l, .reg .a => .ld_l_a
  | .atHL, .reg .b => .ld_atHL_b
  | .atHL, .reg .c => .ld_atHL_c
  | .atHL, .reg .d => .ld_atHL_d
  | .atHL, .reg .e => .ld_atHL_e
  | .atHL, .reg .h => .ld_atHL_h
  | .atHL, .reg .l => .ld_atHL_l
  | .atHL, .atHL => .halt
  | .atHL, .reg .a => .ld_atHL_a
  | .reg .a, .reg .b => .ld_a_b
  | .reg .a, .reg .c => .ld_a_c
  | .reg .a, .reg .d => .ld_a_d
  | .reg .a, .reg .e => .ld_a_e
  | .reg .a, .reg .h => .ld_a_h
  | .reg .a, .reg .l => .ld_a_l
  | .reg .a, .atHL => .ld_a_atHL
  | .reg .a, .reg .a => .ld_a_a

/-- LD r,d8 and LD (HL),d8 (R116, z = 6). -/
def rowLdImm8 : Operand8 → Byte → Instr
  | .reg .b, n => .ld_b_d8 n
  | .reg .c, n => .ld_c_d8 n
  | .reg .d, n => .ld_d_d8 n
  | .reg .e, n => .ld_e_d8 n
  | .reg .h, n => .ld_h_d8 n
  | .reg .l, n => .ld_l_d8 n
  | .atHL, n => .ld_atHL_d8 n
  | .reg .a, n => .ld_a_d8 n

/-- INC r and INC (HL) (R116, z = 4). -/
def rowInc8 : Operand8 → Instr
  | .reg .b => .inc_b
  | .reg .c => .inc_c
  | .reg .d => .inc_d
  | .reg .e => .inc_e
  | .reg .h => .inc_h
  | .reg .l => .inc_l
  | .atHL => .inc_atHL
  | .reg .a => .inc_a

/-- DEC r and DEC (HL) (R116, z = 5). -/
def rowDec8 : Operand8 → Instr
  | .reg .b => .dec_b
  | .reg .c => .dec_c
  | .reg .d => .dec_d
  | .reg .e => .dec_e
  | .reg .h => .dec_h
  | .reg .l => .dec_l
  | .atHL => .dec_atHL
  | .reg .a => .dec_a

/-- LD rp,d16 (R116, z = 1, q = 0). -/
def rowLdImm16 : R16 → Word → Instr
  | .bc, v => .ld_bc_d16 v
  | .de, v => .ld_de_d16 v
  | .hl, v => .ld_hl_d16 v
  | .sp, v => .ld_sp_d16 v

/-- ADD HL,rp (R116, z = 1, q = 1). -/
def rowAddHL : R16 → Instr
  | .bc => .add_hl_bc
  | .de => .add_hl_de
  | .hl => .add_hl_hl
  | .sp => .add_hl_sp

/-- INC rp (R116, z = 3, q = 0). -/
def rowInc16 : R16 → Instr
  | .bc => .inc_bc
  | .de => .inc_de
  | .hl => .inc_hl
  | .sp => .inc_sp

/-- DEC rp (R116, z = 3, q = 1). -/
def rowDec16 : R16 → Instr
  | .bc => .dec_bc
  | .de => .dec_de
  | .hl => .dec_hl
  | .sp => .dec_sp

/-- LD (BC),A; LD (DE),A; LD (HL+),A; LD (HL-),A (R116, z = 2, q = 0). -/
def rowStoreA : IndirectA → Instr
  | .bc => .ld_atBC_a
  | .de => .ld_atDE_a
  | .hli => .ld_atHLi_a
  | .hld => .ld_atHLd_a

/-- LD A,(BC); LD A,(DE); LD A,(HL+); LD A,(HL-) (R116, z = 2, q = 1). -/
def rowLoadA : IndirectA → Instr
  | .bc => .ld_a_atBC
  | .de => .ld_a_atDE
  | .hli => .ld_a_atHLi
  | .hld => .ld_a_atHLd

/-- ALU[y] A,r and ALU[y] A,(HL) (R118). -/
def rowAlu : AluOp → Operand8 → Instr
  | .add, .reg .b => .add_a_b
  | .add, .reg .c => .add_a_c
  | .add, .reg .d => .add_a_d
  | .add, .reg .e => .add_a_e
  | .add, .reg .h => .add_a_h
  | .add, .reg .l => .add_a_l
  | .add, .atHL => .add_a_atHL
  | .add, .reg .a => .add_a_a
  | .adc, .reg .b => .adc_a_b
  | .adc, .reg .c => .adc_a_c
  | .adc, .reg .d => .adc_a_d
  | .adc, .reg .e => .adc_a_e
  | .adc, .reg .h => .adc_a_h
  | .adc, .reg .l => .adc_a_l
  | .adc, .atHL => .adc_a_atHL
  | .adc, .reg .a => .adc_a_a
  | .sub, .reg .b => .sub_b
  | .sub, .reg .c => .sub_c
  | .sub, .reg .d => .sub_d
  | .sub, .reg .e => .sub_e
  | .sub, .reg .h => .sub_h
  | .sub, .reg .l => .sub_l
  | .sub, .atHL => .sub_atHL
  | .sub, .reg .a => .sub_a
  | .sbc, .reg .b => .sbc_a_b
  | .sbc, .reg .c => .sbc_a_c
  | .sbc, .reg .d => .sbc_a_d
  | .sbc, .reg .e => .sbc_a_e
  | .sbc, .reg .h => .sbc_a_h
  | .sbc, .reg .l => .sbc_a_l
  | .sbc, .atHL => .sbc_a_atHL
  | .sbc, .reg .a => .sbc_a_a
  | .and, .reg .b => .and_b
  | .and, .reg .c => .and_c
  | .and, .reg .d => .and_d
  | .and, .reg .e => .and_e
  | .and, .reg .h => .and_h
  | .and, .reg .l => .and_l
  | .and, .atHL => .and_atHL
  | .and, .reg .a => .and_a
  | .xor, .reg .b => .xor_b
  | .xor, .reg .c => .xor_c
  | .xor, .reg .d => .xor_d
  | .xor, .reg .e => .xor_e
  | .xor, .reg .h => .xor_h
  | .xor, .reg .l => .xor_l
  | .xor, .atHL => .xor_atHL
  | .xor, .reg .a => .xor_a
  | .or, .reg .b => .or_b
  | .or, .reg .c => .or_c
  | .or, .reg .d => .or_d
  | .or, .reg .e => .or_e
  | .or, .reg .h => .or_h
  | .or, .reg .l => .or_l
  | .or, .atHL => .or_atHL
  | .or, .reg .a => .or_a
  | .cp, .reg .b => .cp_b
  | .cp, .reg .c => .cp_c
  | .cp, .reg .d => .cp_d
  | .cp, .reg .e => .cp_e
  | .cp, .reg .h => .cp_h
  | .cp, .reg .l => .cp_l
  | .cp, .atHL => .cp_atHL
  | .cp, .reg .a => .cp_a

/-- ALU[y] A,d8 (R119, z = 6). -/
def rowAluImm : AluOp → Byte → Instr
  | .add, n => .add_a_d8 n
  | .adc, n => .adc_a_d8 n
  | .sub, n => .sub_d8 n
  | .sbc, n => .sbc_a_d8 n
  | .and, n => .and_d8 n
  | .xor, n => .xor_d8 n
  | .or, n => .or_d8 n
  | .cp, n => .cp_d8 n

/-- JR cc,e8 (R116, z = 0, y = 4..7). -/
def rowJrCond : Cond → Byte → Instr
  | .nz, n => .jr_nz_e8 n
  | .z, n => .jr_z_e8 n
  | .nc, n => .jr_nc_e8 n
  | .c, n => .jr_c_e8 n

/-- RET cc (R119, z = 0). -/
def rowRetCond : Cond → Instr
  | .nz => .ret_nz
  | .z => .ret_z
  | .nc => .ret_nc
  | .c => .ret_c

/-- JP cc,a16 (R119, z = 2). -/
def rowJpCond : Cond → Word → Instr
  | .nz, a => .jp_nz_a16 a
  | .z, a => .jp_z_a16 a
  | .nc, a => .jp_nc_a16 a
  | .c, a => .jp_c_a16 a

/-- CALL cc,a16 (R119, z = 4). -/
def rowCallCond : Cond → Word → Instr
  | .nz, a => .call_nz_a16 a
  | .z, a => .call_z_a16 a
  | .nc, a => .call_nc_a16 a
  | .c, a => .call_c_a16 a

/-- POP rp2 (R119, z = 1, q = 0). -/
def rowPop : R16Stk → Instr
  | .bc => .pop_bc
  | .de => .pop_de
  | .hl => .pop_hl
  | .af => .pop_af

/-- PUSH rp2 (R119, z = 5, q = 0). -/
def rowPush : R16Stk → Instr
  | .bc => .push_bc
  | .de => .push_de
  | .hl => .push_hl
  | .af => .push_af

/-- RST y*8 (R119, z = 7). -/
def rowRst : Fin 8 → Instr
  | 0 => .rst_00h
  | 1 => .rst_08h
  | 2 => .rst_10h
  | 3 => .rst_18h
  | 4 => .rst_20h
  | 5 => .rst_28h
  | 6 => .rst_30h
  | 7 => .rst_38h

/-- Extended rotate, shift and swap (R120, x = 0). -/
def rowRot : RotOp → Operand8 → Instr
  | .rlc, .reg .b => .rlc_b
  | .rlc, .reg .c => .rlc_c
  | .rlc, .reg .d => .rlc_d
  | .rlc, .reg .e => .rlc_e
  | .rlc, .reg .h => .rlc_h
  | .rlc, .reg .l => .rlc_l
  | .rlc, .atHL => .rlc_atHL
  | .rlc, .reg .a => .rlc_a
  | .rrc, .reg .b => .rrc_b
  | .rrc, .reg .c => .rrc_c
  | .rrc, .reg .d => .rrc_d
  | .rrc, .reg .e => .rrc_e
  | .rrc, .reg .h => .rrc_h
  | .rrc, .reg .l => .rrc_l
  | .rrc, .atHL => .rrc_atHL
  | .rrc, .reg .a => .rrc_a
  | .rl, .reg .b => .rl_b
  | .rl, .reg .c => .rl_c
  | .rl, .reg .d => .rl_d
  | .rl, .reg .e => .rl_e
  | .rl, .reg .h => .rl_h
  | .rl, .reg .l => .rl_l
  | .rl, .atHL => .rl_atHL
  | .rl, .reg .a => .rl_a
  | .rr, .reg .b => .rr_b
  | .rr, .reg .c => .rr_c
  | .rr, .reg .d => .rr_d
  | .rr, .reg .e => .rr_e
  | .rr, .reg .h => .rr_h
  | .rr, .reg .l => .rr_l
  | .rr, .atHL => .rr_atHL
  | .rr, .reg .a => .rr_a
  | .sla, .reg .b => .sla_b
  | .sla, .reg .c => .sla_c
  | .sla, .reg .d => .sla_d
  | .sla, .reg .e => .sla_e
  | .sla, .reg .h => .sla_h
  | .sla, .reg .l => .sla_l
  | .sla, .atHL => .sla_atHL
  | .sla, .reg .a => .sla_a
  | .sra, .reg .b => .sra_b
  | .sra, .reg .c => .sra_c
  | .sra, .reg .d => .sra_d
  | .sra, .reg .e => .sra_e
  | .sra, .reg .h => .sra_h
  | .sra, .reg .l => .sra_l
  | .sra, .atHL => .sra_atHL
  | .sra, .reg .a => .sra_a
  | .swap, .reg .b => .swap_b
  | .swap, .reg .c => .swap_c
  | .swap, .reg .d => .swap_d
  | .swap, .reg .e => .swap_e
  | .swap, .reg .h => .swap_h
  | .swap, .reg .l => .swap_l
  | .swap, .atHL => .swap_atHL
  | .swap, .reg .a => .swap_a
  | .srl, .reg .b => .srl_b
  | .srl, .reg .c => .srl_c
  | .srl, .reg .d => .srl_d
  | .srl, .reg .e => .srl_e
  | .srl, .reg .h => .srl_h
  | .srl, .reg .l => .srl_l
  | .srl, .atHL => .srl_atHL
  | .srl, .reg .a => .srl_a

/-- BIT b,r and BIT b,(HL) (R120, x = 1). -/
def rowBit : Fin 8 → Operand8 → Instr
  | 0, .reg .b => .bit_0_b
  | 0, .reg .c => .bit_0_c
  | 0, .reg .d => .bit_0_d
  | 0, .reg .e => .bit_0_e
  | 0, .reg .h => .bit_0_h
  | 0, .reg .l => .bit_0_l
  | 0, .atHL => .bit_0_atHL
  | 0, .reg .a => .bit_0_a
  | 1, .reg .b => .bit_1_b
  | 1, .reg .c => .bit_1_c
  | 1, .reg .d => .bit_1_d
  | 1, .reg .e => .bit_1_e
  | 1, .reg .h => .bit_1_h
  | 1, .reg .l => .bit_1_l
  | 1, .atHL => .bit_1_atHL
  | 1, .reg .a => .bit_1_a
  | 2, .reg .b => .bit_2_b
  | 2, .reg .c => .bit_2_c
  | 2, .reg .d => .bit_2_d
  | 2, .reg .e => .bit_2_e
  | 2, .reg .h => .bit_2_h
  | 2, .reg .l => .bit_2_l
  | 2, .atHL => .bit_2_atHL
  | 2, .reg .a => .bit_2_a
  | 3, .reg .b => .bit_3_b
  | 3, .reg .c => .bit_3_c
  | 3, .reg .d => .bit_3_d
  | 3, .reg .e => .bit_3_e
  | 3, .reg .h => .bit_3_h
  | 3, .reg .l => .bit_3_l
  | 3, .atHL => .bit_3_atHL
  | 3, .reg .a => .bit_3_a
  | 4, .reg .b => .bit_4_b
  | 4, .reg .c => .bit_4_c
  | 4, .reg .d => .bit_4_d
  | 4, .reg .e => .bit_4_e
  | 4, .reg .h => .bit_4_h
  | 4, .reg .l => .bit_4_l
  | 4, .atHL => .bit_4_atHL
  | 4, .reg .a => .bit_4_a
  | 5, .reg .b => .bit_5_b
  | 5, .reg .c => .bit_5_c
  | 5, .reg .d => .bit_5_d
  | 5, .reg .e => .bit_5_e
  | 5, .reg .h => .bit_5_h
  | 5, .reg .l => .bit_5_l
  | 5, .atHL => .bit_5_atHL
  | 5, .reg .a => .bit_5_a
  | 6, .reg .b => .bit_6_b
  | 6, .reg .c => .bit_6_c
  | 6, .reg .d => .bit_6_d
  | 6, .reg .e => .bit_6_e
  | 6, .reg .h => .bit_6_h
  | 6, .reg .l => .bit_6_l
  | 6, .atHL => .bit_6_atHL
  | 6, .reg .a => .bit_6_a
  | 7, .reg .b => .bit_7_b
  | 7, .reg .c => .bit_7_c
  | 7, .reg .d => .bit_7_d
  | 7, .reg .e => .bit_7_e
  | 7, .reg .h => .bit_7_h
  | 7, .reg .l => .bit_7_l
  | 7, .atHL => .bit_7_atHL
  | 7, .reg .a => .bit_7_a

/-- RES b,r and RES b,(HL) (R120, x = 2). -/
def rowRes : Fin 8 → Operand8 → Instr
  | 0, .reg .b => .res_0_b
  | 0, .reg .c => .res_0_c
  | 0, .reg .d => .res_0_d
  | 0, .reg .e => .res_0_e
  | 0, .reg .h => .res_0_h
  | 0, .reg .l => .res_0_l
  | 0, .atHL => .res_0_atHL
  | 0, .reg .a => .res_0_a
  | 1, .reg .b => .res_1_b
  | 1, .reg .c => .res_1_c
  | 1, .reg .d => .res_1_d
  | 1, .reg .e => .res_1_e
  | 1, .reg .h => .res_1_h
  | 1, .reg .l => .res_1_l
  | 1, .atHL => .res_1_atHL
  | 1, .reg .a => .res_1_a
  | 2, .reg .b => .res_2_b
  | 2, .reg .c => .res_2_c
  | 2, .reg .d => .res_2_d
  | 2, .reg .e => .res_2_e
  | 2, .reg .h => .res_2_h
  | 2, .reg .l => .res_2_l
  | 2, .atHL => .res_2_atHL
  | 2, .reg .a => .res_2_a
  | 3, .reg .b => .res_3_b
  | 3, .reg .c => .res_3_c
  | 3, .reg .d => .res_3_d
  | 3, .reg .e => .res_3_e
  | 3, .reg .h => .res_3_h
  | 3, .reg .l => .res_3_l
  | 3, .atHL => .res_3_atHL
  | 3, .reg .a => .res_3_a
  | 4, .reg .b => .res_4_b
  | 4, .reg .c => .res_4_c
  | 4, .reg .d => .res_4_d
  | 4, .reg .e => .res_4_e
  | 4, .reg .h => .res_4_h
  | 4, .reg .l => .res_4_l
  | 4, .atHL => .res_4_atHL
  | 4, .reg .a => .res_4_a
  | 5, .reg .b => .res_5_b
  | 5, .reg .c => .res_5_c
  | 5, .reg .d => .res_5_d
  | 5, .reg .e => .res_5_e
  | 5, .reg .h => .res_5_h
  | 5, .reg .l => .res_5_l
  | 5, .atHL => .res_5_atHL
  | 5, .reg .a => .res_5_a
  | 6, .reg .b => .res_6_b
  | 6, .reg .c => .res_6_c
  | 6, .reg .d => .res_6_d
  | 6, .reg .e => .res_6_e
  | 6, .reg .h => .res_6_h
  | 6, .reg .l => .res_6_l
  | 6, .atHL => .res_6_atHL
  | 6, .reg .a => .res_6_a
  | 7, .reg .b => .res_7_b
  | 7, .reg .c => .res_7_c
  | 7, .reg .d => .res_7_d
  | 7, .reg .e => .res_7_e
  | 7, .reg .h => .res_7_h
  | 7, .reg .l => .res_7_l
  | 7, .atHL => .res_7_atHL
  | 7, .reg .a => .res_7_a

/-- SET b,r and SET b,(HL) (R120, x = 3). -/
def rowSet : Fin 8 → Operand8 → Instr
  | 0, .reg .b => .set_0_b
  | 0, .reg .c => .set_0_c
  | 0, .reg .d => .set_0_d
  | 0, .reg .e => .set_0_e
  | 0, .reg .h => .set_0_h
  | 0, .reg .l => .set_0_l
  | 0, .atHL => .set_0_atHL
  | 0, .reg .a => .set_0_a
  | 1, .reg .b => .set_1_b
  | 1, .reg .c => .set_1_c
  | 1, .reg .d => .set_1_d
  | 1, .reg .e => .set_1_e
  | 1, .reg .h => .set_1_h
  | 1, .reg .l => .set_1_l
  | 1, .atHL => .set_1_atHL
  | 1, .reg .a => .set_1_a
  | 2, .reg .b => .set_2_b
  | 2, .reg .c => .set_2_c
  | 2, .reg .d => .set_2_d
  | 2, .reg .e => .set_2_e
  | 2, .reg .h => .set_2_h
  | 2, .reg .l => .set_2_l
  | 2, .atHL => .set_2_atHL
  | 2, .reg .a => .set_2_a
  | 3, .reg .b => .set_3_b
  | 3, .reg .c => .set_3_c
  | 3, .reg .d => .set_3_d
  | 3, .reg .e => .set_3_e
  | 3, .reg .h => .set_3_h
  | 3, .reg .l => .set_3_l
  | 3, .atHL => .set_3_atHL
  | 3, .reg .a => .set_3_a
  | 4, .reg .b => .set_4_b
  | 4, .reg .c => .set_4_c
  | 4, .reg .d => .set_4_d
  | 4, .reg .e => .set_4_e
  | 4, .reg .h => .set_4_h
  | 4, .reg .l => .set_4_l
  | 4, .atHL => .set_4_atHL
  | 4, .reg .a => .set_4_a
  | 5, .reg .b => .set_5_b
  | 5, .reg .c => .set_5_c
  | 5, .reg .d => .set_5_d
  | 5, .reg .e => .set_5_e
  | 5, .reg .h => .set_5_h
  | 5, .reg .l => .set_5_l
  | 5, .atHL => .set_5_atHL
  | 5, .reg .a => .set_5_a
  | 6, .reg .b => .set_6_b
  | 6, .reg .c => .set_6_c
  | 6, .reg .d => .set_6_d
  | 6, .reg .e => .set_6_e
  | 6, .reg .h => .set_6_h
  | 6, .reg .l => .set_6_l
  | 6, .atHL => .set_6_atHL
  | 6, .reg .a => .set_6_a
  | 7, .reg .b => .set_7_b
  | 7, .reg .c => .set_7_c
  | 7, .reg .d => .set_7_d
  | 7, .reg .e => .set_7_e
  | 7, .reg .h => .set_7_h
  | 7, .reg .l => .set_7_l
  | 7, .atHL => .set_7_atHL
  | 7, .reg .a => .set_7_a

/-! ## The two opcode maps (`30_encoding.md` R116-R120): `lo` and `hi` are the operand bytes in fetch order, 0 where
the instruction has none -/

/-- R116: x = 0. -/
def decodeX0 (op lo hi : Byte) : Instr :=
  match fieldZ op with
  | 0 =>
    match fieldY op with
    | 0 => .nop
    | 1 => .ld_atA16_sp (joinBytes hi lo)
    | 2 => .stop lo
    | 3 => .jr_e8 lo
    | y => rowJrCond (condOf (y - 4)) lo
  | 1 =>
    match fieldQ op with
    | 0 => rowLdImm16 (r16Of (fieldP op)) (joinBytes hi lo)
    | _ => rowAddHL (r16Of (fieldP op))
  | 2 =>
    match fieldQ op with
    | 0 => rowStoreA (indirectAOf (fieldP op))
    | _ => rowLoadA (indirectAOf (fieldP op))
  | 3 =>
    match fieldQ op with
    | 0 => rowInc16 (r16Of (fieldP op))
    | _ => rowDec16 (r16Of (fieldP op))
  | 4 => rowInc8 (operand8Of (fieldY op))
  | 5 => rowDec8 (operand8Of (fieldY op))
  | 6 => rowLdImm8 (operand8Of (fieldY op)) lo
  | _ =>
    match fieldY op with
    | 0 => .rlca
    | 1 => .rrca
    | 2 => .rla
    | 3 => .rra
    | 4 => .daa
    | 5 => .cpl
    | 6 => .scf
    | _ => .ccf

/-- R119: x = 3, with the eleven absent bytes of R121 in their places. The byte 0xCB (z = 3, y = 1) is the prefix: the
list decoder and the fetch read the extended table there and never ask this map for it. -/
def decodeX3 (op lo hi : Byte) : Instr :=
  match fieldZ op with
  | 0 =>
    match fieldY op with
    | 4 => .ldh_atA8_a lo
    | 5 => .add_sp_e8 lo
    | 6 => .ldh_a_atA8 lo
    | 7 => .ld_hl_spE8 lo
    | y => rowRetCond (condOf y)
  | 1 =>
    match fieldQ op with
    | 0 => rowPop (r16StkOf (fieldP op))
    | _ =>
      match fieldP op with
      | 0 => .ret
      | 1 => .reti
      | 2 => .jp_hl
      | _ => .ld_sp_hl
  | 2 =>
    match fieldY op with
    | 4 => .ld_atC_a
    | 5 => .ld_atA16_a (joinBytes hi lo)
    | 6 => .ld_a_atC
    | 7 => .ld_a_atA16 (joinBytes hi lo)
    | y => rowJpCond (condOf y) (joinBytes hi lo)
  | 3 =>
    match fieldY op with
    | 0 => .jp_a16 (joinBytes hi lo)
    | 1 => .prefixCB
    | 2 => .illegalD3
    | 3 => .illegalDB
    | 4 => .illegalE3
    | 5 => .illegalEB
    | 6 => .di
    | _ => .ei
  | 4 =>
    match fieldY op with
    | 4 => .illegalE4
    | 5 => .illegalEC
    | 6 => .illegalF4
    | 7 => .illegalFC
    | y => rowCallCond (condOf y) (joinBytes hi lo)
  | 5 =>
    match fieldQ op with
    | 0 => rowPush (r16StkOf (fieldP op))
    | _ =>
      match fieldP op with
      | 0 => .call_a16 (joinBytes hi lo)
      | 1 => .illegalDD
      | 2 => .illegalED
      | _ => .illegalFD
  | 6 => rowAluImm (aluOf (fieldY op)) lo
  | _ => rowRst (bitOf (fieldY op))

/-- The base table (R107, R116-R119), R104's `decode(0, op)` with the operand bytes put in. -/
def decodeBase (op lo hi : Byte) : Instr :=
  match fieldX op with
  | 0 => decodeX0 op lo hi
  | 1 => rowLd8 (operand8Of (fieldY op)) (operand8Of (fieldZ op))
  | 2 => rowAlu (aluOf (fieldY op)) (operand8Of (fieldZ op))
  | _ => decodeX3 op lo hi

/-- The extended table (R108, R120), R104's `decode(1, op)`; total, no byte is absent. -/
def decodeExt (op : Byte) : Instr :=
  match fieldX op with
  | 0 => rowRot (rotOf (fieldY op)) (operand8Of (fieldZ op))
  | 1 => rowBit (bitOf (fieldY op)) (operand8Of (fieldZ op))
  | 2 => rowRes (bitOf (fieldY op)) (operand8Of (fieldZ op))
  | _ => rowSet (bitOf (fieldY op)) (operand8Of (fieldZ op))

/-- The prefix byte (R123). -/
def prefixByte : Byte := 0xCB

/-- The eleven absent base bytes (R121). -/
def absentBytes : List Byte := [0xD3, 0xDB, 0xDD, 0xE3, 0xE4, 0xEB, 0xEC, 0xED, 0xF4, 0xFC, 0xFD]

/-- R104, R121: `decode(0, op)` is ABSENT. -/
def isAbsent (op : Byte) : Bool := absentBytes.contains op

/-- The operand bytes after a base opcode (R102 steps 4 and 5, R103, R105): formats F2 and FS have one, F3 two. Read
from the fields: z = 0 and z = 6 immediates, the a16 forms and LD rp,d16. -/
def operandCount (op : Byte) : Nat :=
  match fieldX op with
  | 0 =>
    match fieldZ op with
    | 0 =>
      match fieldY op with
      | 0 => 0
      | 1 => 2
      | _ => 1
    | 1 => if fieldQ op = 0 then 2 else 0
    | 6 => 1
    | _ => 0
  | 1 => 0
  | 2 => 0
  | _ =>
    match fieldZ op with
    | 0 => if 4 ≤ fieldY op then 1 else 0
    | 2 => if fieldY op = 4 ∨ fieldY op = 6 then 0 else 2
    | 3 => if fieldY op = 0 then 2 else 0
    | 4 => if fieldY op < 4 then 2 else 0
    | 5 => if op = 0xCD then 2 else 0
    | 6 => 1
    | _ => 0

/-! ## The list decoder -/

/-- Why a list of bytes decodes to nothing: it ends inside an instruction. No byte value is a reason: the absent bytes
decode to the rows of the table that stand for them. -/
inductive DecodeError where
  | truncated
deriving DecidableEq, Repr

/-- R102 to R105 on bytes in fetch order: the instruction and the bytes after it. -/
def decode : List Byte → Except DecodeError (Instr × List Byte)
  | [] => .error .truncated
  | op :: rest =>
    if op = prefixByte then
      match rest with
      | [] => .error .truncated
      | op' :: rest' => .ok (decodeExt op', rest')
    else
      match operandCount op, rest with
      | 0, _ => .ok (decodeBase op 0 0, rest)
      | 1, n :: rest' => .ok (decodeBase op n 0, rest')
      | 2, lo :: hi :: rest' => .ok (decodeBase op lo hi, rest')
      | _, _ => .error .truncated

/-! ## Descriptors (`30_encoding.md` R126) and the encoder -/

/-- R126 (and the glossary's "descriptor", R15): the instruction byte, the table it stands in, the total encoded
length, the baseline cycle cost ([taken, not taken] for a conditional form), the mnemonic template, and the operand
bytes of this fetch. -/
structure Descriptor where
  extended : Bool
  opcode : Byte
  length : Nat
  cycles : List Nat
  mnemonic : String
  operands : List Byte
deriving DecidableEq, Repr

/-- The descriptor of every instruction: the rows of `spec/opcode_table.json`. The absent bytes and the prefix have no
cycle cost there. -/
def descriptor : Instr → Descriptor
  | .nop => ⟨false, 0x00, 1, [1], "NOP", []⟩
  | .ld_bc_d16 v => ⟨false, 0x01, 3, [3], "LD BC,d16", [loByte v, hiByte v]⟩
  | .ld_atBC_a => ⟨false, 0x02, 1, [2], "LD (BC),A", []⟩
  | .inc_bc => ⟨false, 0x03, 1, [2], "INC BC", []⟩
  | .inc_b => ⟨false, 0x04, 1, [1], "INC B", []⟩
  | .dec_b => ⟨false, 0x05, 1, [1], "DEC B", []⟩
  | .ld_b_d8 n => ⟨false, 0x06, 2, [2], "LD B,d8", [n]⟩
  | .rlca => ⟨false, 0x07, 1, [1], "RLCA", []⟩
  | .ld_atA16_sp a => ⟨false, 0x08, 3, [5], "LD (a16),SP", [loByte a, hiByte a]⟩
  | .add_hl_bc => ⟨false, 0x09, 1, [2], "ADD HL,BC", []⟩
  | .ld_a_atBC => ⟨false, 0x0A, 1, [2], "LD A,(BC)", []⟩
  | .dec_bc => ⟨false, 0x0B, 1, [2], "DEC BC", []⟩
  | .inc_c => ⟨false, 0x0C, 1, [1], "INC C", []⟩
  | .dec_c => ⟨false, 0x0D, 1, [1], "DEC C", []⟩
  | .ld_c_d8 n => ⟨false, 0x0E, 2, [2], "LD C,d8", [n]⟩
  | .rrca => ⟨false, 0x0F, 1, [1], "RRCA", []⟩
  | .stop n => ⟨false, 0x10, 2, [1], "STOP", [n]⟩
  | .ld_de_d16 v => ⟨false, 0x11, 3, [3], "LD DE,d16", [loByte v, hiByte v]⟩
  | .ld_atDE_a => ⟨false, 0x12, 1, [2], "LD (DE),A", []⟩
  | .inc_de => ⟨false, 0x13, 1, [2], "INC DE", []⟩
  | .inc_d => ⟨false, 0x14, 1, [1], "INC D", []⟩
  | .dec_d => ⟨false, 0x15, 1, [1], "DEC D", []⟩
  | .ld_d_d8 n => ⟨false, 0x16, 2, [2], "LD D,d8", [n]⟩
  | .rla => ⟨false, 0x17, 1, [1], "RLA", []⟩
  | .jr_e8 n => ⟨false, 0x18, 2, [3], "JR e8", [n]⟩
  | .add_hl_de => ⟨false, 0x19, 1, [2], "ADD HL,DE", []⟩
  | .ld_a_atDE => ⟨false, 0x1A, 1, [2], "LD A,(DE)", []⟩
  | .dec_de => ⟨false, 0x1B, 1, [2], "DEC DE", []⟩
  | .inc_e => ⟨false, 0x1C, 1, [1], "INC E", []⟩
  | .dec_e => ⟨false, 0x1D, 1, [1], "DEC E", []⟩
  | .ld_e_d8 n => ⟨false, 0x1E, 2, [2], "LD E,d8", [n]⟩
  | .rra => ⟨false, 0x1F, 1, [1], "RRA", []⟩
  | .jr_nz_e8 n => ⟨false, 0x20, 2, [3, 2], "JR NZ,e8", [n]⟩
  | .ld_hl_d16 v => ⟨false, 0x21, 3, [3], "LD HL,d16", [loByte v, hiByte v]⟩
  | .ld_atHLi_a => ⟨false, 0x22, 1, [2], "LD (HL+),A", []⟩
  | .inc_hl => ⟨false, 0x23, 1, [2], "INC HL", []⟩
  | .inc_h => ⟨false, 0x24, 1, [1], "INC H", []⟩
  | .dec_h => ⟨false, 0x25, 1, [1], "DEC H", []⟩
  | .ld_h_d8 n => ⟨false, 0x26, 2, [2], "LD H,d8", [n]⟩
  | .daa => ⟨false, 0x27, 1, [1], "DAA", []⟩
  | .jr_z_e8 n => ⟨false, 0x28, 2, [3, 2], "JR Z,e8", [n]⟩
  | .add_hl_hl => ⟨false, 0x29, 1, [2], "ADD HL,HL", []⟩
  | .ld_a_atHLi => ⟨false, 0x2A, 1, [2], "LD A,(HL+)", []⟩
  | .dec_hl => ⟨false, 0x2B, 1, [2], "DEC HL", []⟩
  | .inc_l => ⟨false, 0x2C, 1, [1], "INC L", []⟩
  | .dec_l => ⟨false, 0x2D, 1, [1], "DEC L", []⟩
  | .ld_l_d8 n => ⟨false, 0x2E, 2, [2], "LD L,d8", [n]⟩
  | .cpl => ⟨false, 0x2F, 1, [1], "CPL", []⟩
  | .jr_nc_e8 n => ⟨false, 0x30, 2, [3, 2], "JR NC,e8", [n]⟩
  | .ld_sp_d16 v => ⟨false, 0x31, 3, [3], "LD SP,d16", [loByte v, hiByte v]⟩
  | .ld_atHLd_a => ⟨false, 0x32, 1, [2], "LD (HL-),A", []⟩
  | .inc_sp => ⟨false, 0x33, 1, [2], "INC SP", []⟩
  | .inc_atHL => ⟨false, 0x34, 1, [3], "INC (HL)", []⟩
  | .dec_atHL => ⟨false, 0x35, 1, [3], "DEC (HL)", []⟩
  | .ld_atHL_d8 n => ⟨false, 0x36, 2, [3], "LD (HL),d8", [n]⟩
  | .scf => ⟨false, 0x37, 1, [1], "SCF", []⟩
  | .jr_c_e8 n => ⟨false, 0x38, 2, [3, 2], "JR C,e8", [n]⟩
  | .add_hl_sp => ⟨false, 0x39, 1, [2], "ADD HL,SP", []⟩
  | .ld_a_atHLd => ⟨false, 0x3A, 1, [2], "LD A,(HL-)", []⟩
  | .dec_sp => ⟨false, 0x3B, 1, [2], "DEC SP", []⟩
  | .inc_a => ⟨false, 0x3C, 1, [1], "INC A", []⟩
  | .dec_a => ⟨false, 0x3D, 1, [1], "DEC A", []⟩
  | .ld_a_d8 n => ⟨false, 0x3E, 2, [2], "LD A,d8", [n]⟩
  | .ccf => ⟨false, 0x3F, 1, [1], "CCF", []⟩
  | .ld_b_b => ⟨false, 0x40, 1, [1], "LD B,B", []⟩
  | .ld_b_c => ⟨false, 0x41, 1, [1], "LD B,C", []⟩
  | .ld_b_d => ⟨false, 0x42, 1, [1], "LD B,D", []⟩
  | .ld_b_e => ⟨false, 0x43, 1, [1], "LD B,E", []⟩
  | .ld_b_h => ⟨false, 0x44, 1, [1], "LD B,H", []⟩
  | .ld_b_l => ⟨false, 0x45, 1, [1], "LD B,L", []⟩
  | .ld_b_atHL => ⟨false, 0x46, 1, [2], "LD B,(HL)", []⟩
  | .ld_b_a => ⟨false, 0x47, 1, [1], "LD B,A", []⟩
  | .ld_c_b => ⟨false, 0x48, 1, [1], "LD C,B", []⟩
  | .ld_c_c => ⟨false, 0x49, 1, [1], "LD C,C", []⟩
  | .ld_c_d => ⟨false, 0x4A, 1, [1], "LD C,D", []⟩
  | .ld_c_e => ⟨false, 0x4B, 1, [1], "LD C,E", []⟩
  | .ld_c_h => ⟨false, 0x4C, 1, [1], "LD C,H", []⟩
  | .ld_c_l => ⟨false, 0x4D, 1, [1], "LD C,L", []⟩
  | .ld_c_atHL => ⟨false, 0x4E, 1, [2], "LD C,(HL)", []⟩
  | .ld_c_a => ⟨false, 0x4F, 1, [1], "LD C,A", []⟩
  | .ld_d_b => ⟨false, 0x50, 1, [1], "LD D,B", []⟩
  | .ld_d_c => ⟨false, 0x51, 1, [1], "LD D,C", []⟩
  | .ld_d_d => ⟨false, 0x52, 1, [1], "LD D,D", []⟩
  | .ld_d_e => ⟨false, 0x53, 1, [1], "LD D,E", []⟩
  | .ld_d_h => ⟨false, 0x54, 1, [1], "LD D,H", []⟩
  | .ld_d_l => ⟨false, 0x55, 1, [1], "LD D,L", []⟩
  | .ld_d_atHL => ⟨false, 0x56, 1, [2], "LD D,(HL)", []⟩
  | .ld_d_a => ⟨false, 0x57, 1, [1], "LD D,A", []⟩
  | .ld_e_b => ⟨false, 0x58, 1, [1], "LD E,B", []⟩
  | .ld_e_c => ⟨false, 0x59, 1, [1], "LD E,C", []⟩
  | .ld_e_d => ⟨false, 0x5A, 1, [1], "LD E,D", []⟩
  | .ld_e_e => ⟨false, 0x5B, 1, [1], "LD E,E", []⟩
  | .ld_e_h => ⟨false, 0x5C, 1, [1], "LD E,H", []⟩
  | .ld_e_l => ⟨false, 0x5D, 1, [1], "LD E,L", []⟩
  | .ld_e_atHL => ⟨false, 0x5E, 1, [2], "LD E,(HL)", []⟩
  | .ld_e_a => ⟨false, 0x5F, 1, [1], "LD E,A", []⟩
  | .ld_h_b => ⟨false, 0x60, 1, [1], "LD H,B", []⟩
  | .ld_h_c => ⟨false, 0x61, 1, [1], "LD H,C", []⟩
  | .ld_h_d => ⟨false, 0x62, 1, [1], "LD H,D", []⟩
  | .ld_h_e => ⟨false, 0x63, 1, [1], "LD H,E", []⟩
  | .ld_h_h => ⟨false, 0x64, 1, [1], "LD H,H", []⟩
  | .ld_h_l => ⟨false, 0x65, 1, [1], "LD H,L", []⟩
  | .ld_h_atHL => ⟨false, 0x66, 1, [2], "LD H,(HL)", []⟩
  | .ld_h_a => ⟨false, 0x67, 1, [1], "LD H,A", []⟩
  | .ld_l_b => ⟨false, 0x68, 1, [1], "LD L,B", []⟩
  | .ld_l_c => ⟨false, 0x69, 1, [1], "LD L,C", []⟩
  | .ld_l_d => ⟨false, 0x6A, 1, [1], "LD L,D", []⟩
  | .ld_l_e => ⟨false, 0x6B, 1, [1], "LD L,E", []⟩
  | .ld_l_h => ⟨false, 0x6C, 1, [1], "LD L,H", []⟩
  | .ld_l_l => ⟨false, 0x6D, 1, [1], "LD L,L", []⟩
  | .ld_l_atHL => ⟨false, 0x6E, 1, [2], "LD L,(HL)", []⟩
  | .ld_l_a => ⟨false, 0x6F, 1, [1], "LD L,A", []⟩
  | .ld_atHL_b => ⟨false, 0x70, 1, [2], "LD (HL),B", []⟩
  | .ld_atHL_c => ⟨false, 0x71, 1, [2], "LD (HL),C", []⟩
  | .ld_atHL_d => ⟨false, 0x72, 1, [2], "LD (HL),D", []⟩
  | .ld_atHL_e => ⟨false, 0x73, 1, [2], "LD (HL),E", []⟩
  | .ld_atHL_h => ⟨false, 0x74, 1, [2], "LD (HL),H", []⟩
  | .ld_atHL_l => ⟨false, 0x75, 1, [2], "LD (HL),L", []⟩
  | .halt => ⟨false, 0x76, 1, [1], "HALT", []⟩
  | .ld_atHL_a => ⟨false, 0x77, 1, [2], "LD (HL),A", []⟩
  | .ld_a_b => ⟨false, 0x78, 1, [1], "LD A,B", []⟩
  | .ld_a_c => ⟨false, 0x79, 1, [1], "LD A,C", []⟩
  | .ld_a_d => ⟨false, 0x7A, 1, [1], "LD A,D", []⟩
  | .ld_a_e => ⟨false, 0x7B, 1, [1], "LD A,E", []⟩
  | .ld_a_h => ⟨false, 0x7C, 1, [1], "LD A,H", []⟩
  | .ld_a_l => ⟨false, 0x7D, 1, [1], "LD A,L", []⟩
  | .ld_a_atHL => ⟨false, 0x7E, 1, [2], "LD A,(HL)", []⟩
  | .ld_a_a => ⟨false, 0x7F, 1, [1], "LD A,A", []⟩
  | .add_a_b => ⟨false, 0x80, 1, [1], "ADD A,B", []⟩
  | .add_a_c => ⟨false, 0x81, 1, [1], "ADD A,C", []⟩
  | .add_a_d => ⟨false, 0x82, 1, [1], "ADD A,D", []⟩
  | .add_a_e => ⟨false, 0x83, 1, [1], "ADD A,E", []⟩
  | .add_a_h => ⟨false, 0x84, 1, [1], "ADD A,H", []⟩
  | .add_a_l => ⟨false, 0x85, 1, [1], "ADD A,L", []⟩
  | .add_a_atHL => ⟨false, 0x86, 1, [2], "ADD A,(HL)", []⟩
  | .add_a_a => ⟨false, 0x87, 1, [1], "ADD A,A", []⟩
  | .adc_a_b => ⟨false, 0x88, 1, [1], "ADC A,B", []⟩
  | .adc_a_c => ⟨false, 0x89, 1, [1], "ADC A,C", []⟩
  | .adc_a_d => ⟨false, 0x8A, 1, [1], "ADC A,D", []⟩
  | .adc_a_e => ⟨false, 0x8B, 1, [1], "ADC A,E", []⟩
  | .adc_a_h => ⟨false, 0x8C, 1, [1], "ADC A,H", []⟩
  | .adc_a_l => ⟨false, 0x8D, 1, [1], "ADC A,L", []⟩
  | .adc_a_atHL => ⟨false, 0x8E, 1, [2], "ADC A,(HL)", []⟩
  | .adc_a_a => ⟨false, 0x8F, 1, [1], "ADC A,A", []⟩
  | .sub_b => ⟨false, 0x90, 1, [1], "SUB B", []⟩
  | .sub_c => ⟨false, 0x91, 1, [1], "SUB C", []⟩
  | .sub_d => ⟨false, 0x92, 1, [1], "SUB D", []⟩
  | .sub_e => ⟨false, 0x93, 1, [1], "SUB E", []⟩
  | .sub_h => ⟨false, 0x94, 1, [1], "SUB H", []⟩
  | .sub_l => ⟨false, 0x95, 1, [1], "SUB L", []⟩
  | .sub_atHL => ⟨false, 0x96, 1, [2], "SUB (HL)", []⟩
  | .sub_a => ⟨false, 0x97, 1, [1], "SUB A", []⟩
  | .sbc_a_b => ⟨false, 0x98, 1, [1], "SBC A,B", []⟩
  | .sbc_a_c => ⟨false, 0x99, 1, [1], "SBC A,C", []⟩
  | .sbc_a_d => ⟨false, 0x9A, 1, [1], "SBC A,D", []⟩
  | .sbc_a_e => ⟨false, 0x9B, 1, [1], "SBC A,E", []⟩
  | .sbc_a_h => ⟨false, 0x9C, 1, [1], "SBC A,H", []⟩
  | .sbc_a_l => ⟨false, 0x9D, 1, [1], "SBC A,L", []⟩
  | .sbc_a_atHL => ⟨false, 0x9E, 1, [2], "SBC A,(HL)", []⟩
  | .sbc_a_a => ⟨false, 0x9F, 1, [1], "SBC A,A", []⟩
  | .and_b => ⟨false, 0xA0, 1, [1], "AND B", []⟩
  | .and_c => ⟨false, 0xA1, 1, [1], "AND C", []⟩
  | .and_d => ⟨false, 0xA2, 1, [1], "AND D", []⟩
  | .and_e => ⟨false, 0xA3, 1, [1], "AND E", []⟩
  | .and_h => ⟨false, 0xA4, 1, [1], "AND H", []⟩
  | .and_l => ⟨false, 0xA5, 1, [1], "AND L", []⟩
  | .and_atHL => ⟨false, 0xA6, 1, [2], "AND (HL)", []⟩
  | .and_a => ⟨false, 0xA7, 1, [1], "AND A", []⟩
  | .xor_b => ⟨false, 0xA8, 1, [1], "XOR B", []⟩
  | .xor_c => ⟨false, 0xA9, 1, [1], "XOR C", []⟩
  | .xor_d => ⟨false, 0xAA, 1, [1], "XOR D", []⟩
  | .xor_e => ⟨false, 0xAB, 1, [1], "XOR E", []⟩
  | .xor_h => ⟨false, 0xAC, 1, [1], "XOR H", []⟩
  | .xor_l => ⟨false, 0xAD, 1, [1], "XOR L", []⟩
  | .xor_atHL => ⟨false, 0xAE, 1, [2], "XOR (HL)", []⟩
  | .xor_a => ⟨false, 0xAF, 1, [1], "XOR A", []⟩
  | .or_b => ⟨false, 0xB0, 1, [1], "OR B", []⟩
  | .or_c => ⟨false, 0xB1, 1, [1], "OR C", []⟩
  | .or_d => ⟨false, 0xB2, 1, [1], "OR D", []⟩
  | .or_e => ⟨false, 0xB3, 1, [1], "OR E", []⟩
  | .or_h => ⟨false, 0xB4, 1, [1], "OR H", []⟩
  | .or_l => ⟨false, 0xB5, 1, [1], "OR L", []⟩
  | .or_atHL => ⟨false, 0xB6, 1, [2], "OR (HL)", []⟩
  | .or_a => ⟨false, 0xB7, 1, [1], "OR A", []⟩
  | .cp_b => ⟨false, 0xB8, 1, [1], "CP B", []⟩
  | .cp_c => ⟨false, 0xB9, 1, [1], "CP C", []⟩
  | .cp_d => ⟨false, 0xBA, 1, [1], "CP D", []⟩
  | .cp_e => ⟨false, 0xBB, 1, [1], "CP E", []⟩
  | .cp_h => ⟨false, 0xBC, 1, [1], "CP H", []⟩
  | .cp_l => ⟨false, 0xBD, 1, [1], "CP L", []⟩
  | .cp_atHL => ⟨false, 0xBE, 1, [2], "CP (HL)", []⟩
  | .cp_a => ⟨false, 0xBF, 1, [1], "CP A", []⟩
  | .ret_nz => ⟨false, 0xC0, 1, [5, 2], "RET NZ", []⟩
  | .pop_bc => ⟨false, 0xC1, 1, [3], "POP BC", []⟩
  | .jp_nz_a16 a => ⟨false, 0xC2, 3, [4, 3], "JP NZ,a16", [loByte a, hiByte a]⟩
  | .jp_a16 a => ⟨false, 0xC3, 3, [4], "JP a16", [loByte a, hiByte a]⟩
  | .call_nz_a16 a => ⟨false, 0xC4, 3, [6, 3], "CALL NZ,a16", [loByte a, hiByte a]⟩
  | .push_bc => ⟨false, 0xC5, 1, [4], "PUSH BC", []⟩
  | .add_a_d8 n => ⟨false, 0xC6, 2, [2], "ADD A,d8", [n]⟩
  | .rst_00h => ⟨false, 0xC7, 1, [4], "RST 00H", []⟩
  | .ret_z => ⟨false, 0xC8, 1, [5, 2], "RET Z", []⟩
  | .ret => ⟨false, 0xC9, 1, [4], "RET", []⟩
  | .jp_z_a16 a => ⟨false, 0xCA, 3, [4, 3], "JP Z,a16", [loByte a, hiByte a]⟩
  | .prefixCB => ⟨false, 0xCB, 1, [], "PREFIX CB", []⟩
  | .call_z_a16 a => ⟨false, 0xCC, 3, [6, 3], "CALL Z,a16", [loByte a, hiByte a]⟩
  | .call_a16 a => ⟨false, 0xCD, 3, [6], "CALL a16", [loByte a, hiByte a]⟩
  | .adc_a_d8 n => ⟨false, 0xCE, 2, [2], "ADC A,d8", [n]⟩
  | .rst_08h => ⟨false, 0xCF, 1, [4], "RST 08H", []⟩
  | .ret_nc => ⟨false, 0xD0, 1, [5, 2], "RET NC", []⟩
  | .pop_de => ⟨false, 0xD1, 1, [3], "POP DE", []⟩
  | .jp_nc_a16 a => ⟨false, 0xD2, 3, [4, 3], "JP NC,a16", [loByte a, hiByte a]⟩
  | .illegalD3 => ⟨false, 0xD3, 1, [], "(illegal)", []⟩
  | .call_nc_a16 a => ⟨false, 0xD4, 3, [6, 3], "CALL NC,a16", [loByte a, hiByte a]⟩
  | .push_de => ⟨false, 0xD5, 1, [4], "PUSH DE", []⟩
  | .sub_d8 n => ⟨false, 0xD6, 2, [2], "SUB d8", [n]⟩
  | .rst_10h => ⟨false, 0xD7, 1, [4], "RST 10H", []⟩
  | .ret_c => ⟨false, 0xD8, 1, [5, 2], "RET C", []⟩
  | .reti => ⟨false, 0xD9, 1, [4], "RETI", []⟩
  | .jp_c_a16 a => ⟨false, 0xDA, 3, [4, 3], "JP C,a16", [loByte a, hiByte a]⟩
  | .illegalDB => ⟨false, 0xDB, 1, [], "(illegal)", []⟩
  | .call_c_a16 a => ⟨false, 0xDC, 3, [6, 3], "CALL C,a16", [loByte a, hiByte a]⟩
  | .illegalDD => ⟨false, 0xDD, 1, [], "(illegal)", []⟩
  | .sbc_a_d8 n => ⟨false, 0xDE, 2, [2], "SBC A,d8", [n]⟩
  | .rst_18h => ⟨false, 0xDF, 1, [4], "RST 18H", []⟩
  | .ldh_atA8_a n => ⟨false, 0xE0, 2, [3], "LDH (a8),A", [n]⟩
  | .pop_hl => ⟨false, 0xE1, 1, [3], "POP HL", []⟩
  | .ld_atC_a => ⟨false, 0xE2, 1, [2], "LD (C),A", []⟩
  | .illegalE3 => ⟨false, 0xE3, 1, [], "(illegal)", []⟩
  | .illegalE4 => ⟨false, 0xE4, 1, [], "(illegal)", []⟩
  | .push_hl => ⟨false, 0xE5, 1, [4], "PUSH HL", []⟩
  | .and_d8 n => ⟨false, 0xE6, 2, [2], "AND d8", [n]⟩
  | .rst_20h => ⟨false, 0xE7, 1, [4], "RST 20H", []⟩
  | .add_sp_e8 n => ⟨false, 0xE8, 2, [4], "ADD SP,e8", [n]⟩
  | .jp_hl => ⟨false, 0xE9, 1, [1], "JP HL", []⟩
  | .ld_atA16_a a => ⟨false, 0xEA, 3, [4], "LD (a16),A", [loByte a, hiByte a]⟩
  | .illegalEB => ⟨false, 0xEB, 1, [], "(illegal)", []⟩
  | .illegalEC => ⟨false, 0xEC, 1, [], "(illegal)", []⟩
  | .illegalED => ⟨false, 0xED, 1, [], "(illegal)", []⟩
  | .xor_d8 n => ⟨false, 0xEE, 2, [2], "XOR d8", [n]⟩
  | .rst_28h => ⟨false, 0xEF, 1, [4], "RST 28H", []⟩
  | .ldh_a_atA8 n => ⟨false, 0xF0, 2, [3], "LDH A,(a8)", [n]⟩
  | .pop_af => ⟨false, 0xF1, 1, [3], "POP AF", []⟩
  | .ld_a_atC => ⟨false, 0xF2, 1, [2], "LD A,(C)", []⟩
  | .di => ⟨false, 0xF3, 1, [1], "DI", []⟩
  | .illegalF4 => ⟨false, 0xF4, 1, [], "(illegal)", []⟩
  | .push_af => ⟨false, 0xF5, 1, [4], "PUSH AF", []⟩
  | .or_d8 n => ⟨false, 0xF6, 2, [2], "OR d8", [n]⟩
  | .rst_30h => ⟨false, 0xF7, 1, [4], "RST 30H", []⟩
  | .ld_hl_spE8 n => ⟨false, 0xF8, 2, [3], "LD HL,SP+e8", [n]⟩
  | .ld_sp_hl => ⟨false, 0xF9, 1, [2], "LD SP,HL", []⟩
  | .ld_a_atA16 a => ⟨false, 0xFA, 3, [4], "LD A,(a16)", [loByte a, hiByte a]⟩
  | .ei => ⟨false, 0xFB, 1, [1], "EI", []⟩
  | .illegalFC => ⟨false, 0xFC, 1, [], "(illegal)", []⟩
  | .illegalFD => ⟨false, 0xFD, 1, [], "(illegal)", []⟩
  | .cp_d8 n => ⟨false, 0xFE, 2, [2], "CP d8", [n]⟩
  | .rst_38h => ⟨false, 0xFF, 1, [4], "RST 38H", []⟩
  | .rlc_b => ⟨true, 0x00, 2, [2], "RLC B", []⟩
  | .rlc_c => ⟨true, 0x01, 2, [2], "RLC C", []⟩
  | .rlc_d => ⟨true, 0x02, 2, [2], "RLC D", []⟩
  | .rlc_e => ⟨true, 0x03, 2, [2], "RLC E", []⟩
  | .rlc_h => ⟨true, 0x04, 2, [2], "RLC H", []⟩
  | .rlc_l => ⟨true, 0x05, 2, [2], "RLC L", []⟩
  | .rlc_atHL => ⟨true, 0x06, 2, [4], "RLC (HL)", []⟩
  | .rlc_a => ⟨true, 0x07, 2, [2], "RLC A", []⟩
  | .rrc_b => ⟨true, 0x08, 2, [2], "RRC B", []⟩
  | .rrc_c => ⟨true, 0x09, 2, [2], "RRC C", []⟩
  | .rrc_d => ⟨true, 0x0A, 2, [2], "RRC D", []⟩
  | .rrc_e => ⟨true, 0x0B, 2, [2], "RRC E", []⟩
  | .rrc_h => ⟨true, 0x0C, 2, [2], "RRC H", []⟩
  | .rrc_l => ⟨true, 0x0D, 2, [2], "RRC L", []⟩
  | .rrc_atHL => ⟨true, 0x0E, 2, [4], "RRC (HL)", []⟩
  | .rrc_a => ⟨true, 0x0F, 2, [2], "RRC A", []⟩
  | .rl_b => ⟨true, 0x10, 2, [2], "RL B", []⟩
  | .rl_c => ⟨true, 0x11, 2, [2], "RL C", []⟩
  | .rl_d => ⟨true, 0x12, 2, [2], "RL D", []⟩
  | .rl_e => ⟨true, 0x13, 2, [2], "RL E", []⟩
  | .rl_h => ⟨true, 0x14, 2, [2], "RL H", []⟩
  | .rl_l => ⟨true, 0x15, 2, [2], "RL L", []⟩
  | .rl_atHL => ⟨true, 0x16, 2, [4], "RL (HL)", []⟩
  | .rl_a => ⟨true, 0x17, 2, [2], "RL A", []⟩
  | .rr_b => ⟨true, 0x18, 2, [2], "RR B", []⟩
  | .rr_c => ⟨true, 0x19, 2, [2], "RR C", []⟩
  | .rr_d => ⟨true, 0x1A, 2, [2], "RR D", []⟩
  | .rr_e => ⟨true, 0x1B, 2, [2], "RR E", []⟩
  | .rr_h => ⟨true, 0x1C, 2, [2], "RR H", []⟩
  | .rr_l => ⟨true, 0x1D, 2, [2], "RR L", []⟩
  | .rr_atHL => ⟨true, 0x1E, 2, [4], "RR (HL)", []⟩
  | .rr_a => ⟨true, 0x1F, 2, [2], "RR A", []⟩
  | .sla_b => ⟨true, 0x20, 2, [2], "SLA B", []⟩
  | .sla_c => ⟨true, 0x21, 2, [2], "SLA C", []⟩
  | .sla_d => ⟨true, 0x22, 2, [2], "SLA D", []⟩
  | .sla_e => ⟨true, 0x23, 2, [2], "SLA E", []⟩
  | .sla_h => ⟨true, 0x24, 2, [2], "SLA H", []⟩
  | .sla_l => ⟨true, 0x25, 2, [2], "SLA L", []⟩
  | .sla_atHL => ⟨true, 0x26, 2, [4], "SLA (HL)", []⟩
  | .sla_a => ⟨true, 0x27, 2, [2], "SLA A", []⟩
  | .sra_b => ⟨true, 0x28, 2, [2], "SRA B", []⟩
  | .sra_c => ⟨true, 0x29, 2, [2], "SRA C", []⟩
  | .sra_d => ⟨true, 0x2A, 2, [2], "SRA D", []⟩
  | .sra_e => ⟨true, 0x2B, 2, [2], "SRA E", []⟩
  | .sra_h => ⟨true, 0x2C, 2, [2], "SRA H", []⟩
  | .sra_l => ⟨true, 0x2D, 2, [2], "SRA L", []⟩
  | .sra_atHL => ⟨true, 0x2E, 2, [4], "SRA (HL)", []⟩
  | .sra_a => ⟨true, 0x2F, 2, [2], "SRA A", []⟩
  | .swap_b => ⟨true, 0x30, 2, [2], "SWAP B", []⟩
  | .swap_c => ⟨true, 0x31, 2, [2], "SWAP C", []⟩
  | .swap_d => ⟨true, 0x32, 2, [2], "SWAP D", []⟩
  | .swap_e => ⟨true, 0x33, 2, [2], "SWAP E", []⟩
  | .swap_h => ⟨true, 0x34, 2, [2], "SWAP H", []⟩
  | .swap_l => ⟨true, 0x35, 2, [2], "SWAP L", []⟩
  | .swap_atHL => ⟨true, 0x36, 2, [4], "SWAP (HL)", []⟩
  | .swap_a => ⟨true, 0x37, 2, [2], "SWAP A", []⟩
  | .srl_b => ⟨true, 0x38, 2, [2], "SRL B", []⟩
  | .srl_c => ⟨true, 0x39, 2, [2], "SRL C", []⟩
  | .srl_d => ⟨true, 0x3A, 2, [2], "SRL D", []⟩
  | .srl_e => ⟨true, 0x3B, 2, [2], "SRL E", []⟩
  | .srl_h => ⟨true, 0x3C, 2, [2], "SRL H", []⟩
  | .srl_l => ⟨true, 0x3D, 2, [2], "SRL L", []⟩
  | .srl_atHL => ⟨true, 0x3E, 2, [4], "SRL (HL)", []⟩
  | .srl_a => ⟨true, 0x3F, 2, [2], "SRL A", []⟩
  | .bit_0_b => ⟨true, 0x40, 2, [2], "BIT 0,B", []⟩
  | .bit_0_c => ⟨true, 0x41, 2, [2], "BIT 0,C", []⟩
  | .bit_0_d => ⟨true, 0x42, 2, [2], "BIT 0,D", []⟩
  | .bit_0_e => ⟨true, 0x43, 2, [2], "BIT 0,E", []⟩
  | .bit_0_h => ⟨true, 0x44, 2, [2], "BIT 0,H", []⟩
  | .bit_0_l => ⟨true, 0x45, 2, [2], "BIT 0,L", []⟩
  | .bit_0_atHL => ⟨true, 0x46, 2, [3], "BIT 0,(HL)", []⟩
  | .bit_0_a => ⟨true, 0x47, 2, [2], "BIT 0,A", []⟩
  | .bit_1_b => ⟨true, 0x48, 2, [2], "BIT 1,B", []⟩
  | .bit_1_c => ⟨true, 0x49, 2, [2], "BIT 1,C", []⟩
  | .bit_1_d => ⟨true, 0x4A, 2, [2], "BIT 1,D", []⟩
  | .bit_1_e => ⟨true, 0x4B, 2, [2], "BIT 1,E", []⟩
  | .bit_1_h => ⟨true, 0x4C, 2, [2], "BIT 1,H", []⟩
  | .bit_1_l => ⟨true, 0x4D, 2, [2], "BIT 1,L", []⟩
  | .bit_1_atHL => ⟨true, 0x4E, 2, [3], "BIT 1,(HL)", []⟩
  | .bit_1_a => ⟨true, 0x4F, 2, [2], "BIT 1,A", []⟩
  | .bit_2_b => ⟨true, 0x50, 2, [2], "BIT 2,B", []⟩
  | .bit_2_c => ⟨true, 0x51, 2, [2], "BIT 2,C", []⟩
  | .bit_2_d => ⟨true, 0x52, 2, [2], "BIT 2,D", []⟩
  | .bit_2_e => ⟨true, 0x53, 2, [2], "BIT 2,E", []⟩
  | .bit_2_h => ⟨true, 0x54, 2, [2], "BIT 2,H", []⟩
  | .bit_2_l => ⟨true, 0x55, 2, [2], "BIT 2,L", []⟩
  | .bit_2_atHL => ⟨true, 0x56, 2, [3], "BIT 2,(HL)", []⟩
  | .bit_2_a => ⟨true, 0x57, 2, [2], "BIT 2,A", []⟩
  | .bit_3_b => ⟨true, 0x58, 2, [2], "BIT 3,B", []⟩
  | .bit_3_c => ⟨true, 0x59, 2, [2], "BIT 3,C", []⟩
  | .bit_3_d => ⟨true, 0x5A, 2, [2], "BIT 3,D", []⟩
  | .bit_3_e => ⟨true, 0x5B, 2, [2], "BIT 3,E", []⟩
  | .bit_3_h => ⟨true, 0x5C, 2, [2], "BIT 3,H", []⟩
  | .bit_3_l => ⟨true, 0x5D, 2, [2], "BIT 3,L", []⟩
  | .bit_3_atHL => ⟨true, 0x5E, 2, [3], "BIT 3,(HL)", []⟩
  | .bit_3_a => ⟨true, 0x5F, 2, [2], "BIT 3,A", []⟩
  | .bit_4_b => ⟨true, 0x60, 2, [2], "BIT 4,B", []⟩
  | .bit_4_c => ⟨true, 0x61, 2, [2], "BIT 4,C", []⟩
  | .bit_4_d => ⟨true, 0x62, 2, [2], "BIT 4,D", []⟩
  | .bit_4_e => ⟨true, 0x63, 2, [2], "BIT 4,E", []⟩
  | .bit_4_h => ⟨true, 0x64, 2, [2], "BIT 4,H", []⟩
  | .bit_4_l => ⟨true, 0x65, 2, [2], "BIT 4,L", []⟩
  | .bit_4_atHL => ⟨true, 0x66, 2, [3], "BIT 4,(HL)", []⟩
  | .bit_4_a => ⟨true, 0x67, 2, [2], "BIT 4,A", []⟩
  | .bit_5_b => ⟨true, 0x68, 2, [2], "BIT 5,B", []⟩
  | .bit_5_c => ⟨true, 0x69, 2, [2], "BIT 5,C", []⟩
  | .bit_5_d => ⟨true, 0x6A, 2, [2], "BIT 5,D", []⟩
  | .bit_5_e => ⟨true, 0x6B, 2, [2], "BIT 5,E", []⟩
  | .bit_5_h => ⟨true, 0x6C, 2, [2], "BIT 5,H", []⟩
  | .bit_5_l => ⟨true, 0x6D, 2, [2], "BIT 5,L", []⟩
  | .bit_5_atHL => ⟨true, 0x6E, 2, [3], "BIT 5,(HL)", []⟩
  | .bit_5_a => ⟨true, 0x6F, 2, [2], "BIT 5,A", []⟩
  | .bit_6_b => ⟨true, 0x70, 2, [2], "BIT 6,B", []⟩
  | .bit_6_c => ⟨true, 0x71, 2, [2], "BIT 6,C", []⟩
  | .bit_6_d => ⟨true, 0x72, 2, [2], "BIT 6,D", []⟩
  | .bit_6_e => ⟨true, 0x73, 2, [2], "BIT 6,E", []⟩
  | .bit_6_h => ⟨true, 0x74, 2, [2], "BIT 6,H", []⟩
  | .bit_6_l => ⟨true, 0x75, 2, [2], "BIT 6,L", []⟩
  | .bit_6_atHL => ⟨true, 0x76, 2, [3], "BIT 6,(HL)", []⟩
  | .bit_6_a => ⟨true, 0x77, 2, [2], "BIT 6,A", []⟩
  | .bit_7_b => ⟨true, 0x78, 2, [2], "BIT 7,B", []⟩
  | .bit_7_c => ⟨true, 0x79, 2, [2], "BIT 7,C", []⟩
  | .bit_7_d => ⟨true, 0x7A, 2, [2], "BIT 7,D", []⟩
  | .bit_7_e => ⟨true, 0x7B, 2, [2], "BIT 7,E", []⟩
  | .bit_7_h => ⟨true, 0x7C, 2, [2], "BIT 7,H", []⟩
  | .bit_7_l => ⟨true, 0x7D, 2, [2], "BIT 7,L", []⟩
  | .bit_7_atHL => ⟨true, 0x7E, 2, [3], "BIT 7,(HL)", []⟩
  | .bit_7_a => ⟨true, 0x7F, 2, [2], "BIT 7,A", []⟩
  | .res_0_b => ⟨true, 0x80, 2, [2], "RES 0,B", []⟩
  | .res_0_c => ⟨true, 0x81, 2, [2], "RES 0,C", []⟩
  | .res_0_d => ⟨true, 0x82, 2, [2], "RES 0,D", []⟩
  | .res_0_e => ⟨true, 0x83, 2, [2], "RES 0,E", []⟩
  | .res_0_h => ⟨true, 0x84, 2, [2], "RES 0,H", []⟩
  | .res_0_l => ⟨true, 0x85, 2, [2], "RES 0,L", []⟩
  | .res_0_atHL => ⟨true, 0x86, 2, [4], "RES 0,(HL)", []⟩
  | .res_0_a => ⟨true, 0x87, 2, [2], "RES 0,A", []⟩
  | .res_1_b => ⟨true, 0x88, 2, [2], "RES 1,B", []⟩
  | .res_1_c => ⟨true, 0x89, 2, [2], "RES 1,C", []⟩
  | .res_1_d => ⟨true, 0x8A, 2, [2], "RES 1,D", []⟩
  | .res_1_e => ⟨true, 0x8B, 2, [2], "RES 1,E", []⟩
  | .res_1_h => ⟨true, 0x8C, 2, [2], "RES 1,H", []⟩
  | .res_1_l => ⟨true, 0x8D, 2, [2], "RES 1,L", []⟩
  | .res_1_atHL => ⟨true, 0x8E, 2, [4], "RES 1,(HL)", []⟩
  | .res_1_a => ⟨true, 0x8F, 2, [2], "RES 1,A", []⟩
  | .res_2_b => ⟨true, 0x90, 2, [2], "RES 2,B", []⟩
  | .res_2_c => ⟨true, 0x91, 2, [2], "RES 2,C", []⟩
  | .res_2_d => ⟨true, 0x92, 2, [2], "RES 2,D", []⟩
  | .res_2_e => ⟨true, 0x93, 2, [2], "RES 2,E", []⟩
  | .res_2_h => ⟨true, 0x94, 2, [2], "RES 2,H", []⟩
  | .res_2_l => ⟨true, 0x95, 2, [2], "RES 2,L", []⟩
  | .res_2_atHL => ⟨true, 0x96, 2, [4], "RES 2,(HL)", []⟩
  | .res_2_a => ⟨true, 0x97, 2, [2], "RES 2,A", []⟩
  | .res_3_b => ⟨true, 0x98, 2, [2], "RES 3,B", []⟩
  | .res_3_c => ⟨true, 0x99, 2, [2], "RES 3,C", []⟩
  | .res_3_d => ⟨true, 0x9A, 2, [2], "RES 3,D", []⟩
  | .res_3_e => ⟨true, 0x9B, 2, [2], "RES 3,E", []⟩
  | .res_3_h => ⟨true, 0x9C, 2, [2], "RES 3,H", []⟩
  | .res_3_l => ⟨true, 0x9D, 2, [2], "RES 3,L", []⟩
  | .res_3_atHL => ⟨true, 0x9E, 2, [4], "RES 3,(HL)", []⟩
  | .res_3_a => ⟨true, 0x9F, 2, [2], "RES 3,A", []⟩
  | .res_4_b => ⟨true, 0xA0, 2, [2], "RES 4,B", []⟩
  | .res_4_c => ⟨true, 0xA1, 2, [2], "RES 4,C", []⟩
  | .res_4_d => ⟨true, 0xA2, 2, [2], "RES 4,D", []⟩
  | .res_4_e => ⟨true, 0xA3, 2, [2], "RES 4,E", []⟩
  | .res_4_h => ⟨true, 0xA4, 2, [2], "RES 4,H", []⟩
  | .res_4_l => ⟨true, 0xA5, 2, [2], "RES 4,L", []⟩
  | .res_4_atHL => ⟨true, 0xA6, 2, [4], "RES 4,(HL)", []⟩
  | .res_4_a => ⟨true, 0xA7, 2, [2], "RES 4,A", []⟩
  | .res_5_b => ⟨true, 0xA8, 2, [2], "RES 5,B", []⟩
  | .res_5_c => ⟨true, 0xA9, 2, [2], "RES 5,C", []⟩
  | .res_5_d => ⟨true, 0xAA, 2, [2], "RES 5,D", []⟩
  | .res_5_e => ⟨true, 0xAB, 2, [2], "RES 5,E", []⟩
  | .res_5_h => ⟨true, 0xAC, 2, [2], "RES 5,H", []⟩
  | .res_5_l => ⟨true, 0xAD, 2, [2], "RES 5,L", []⟩
  | .res_5_atHL => ⟨true, 0xAE, 2, [4], "RES 5,(HL)", []⟩
  | .res_5_a => ⟨true, 0xAF, 2, [2], "RES 5,A", []⟩
  | .res_6_b => ⟨true, 0xB0, 2, [2], "RES 6,B", []⟩
  | .res_6_c => ⟨true, 0xB1, 2, [2], "RES 6,C", []⟩
  | .res_6_d => ⟨true, 0xB2, 2, [2], "RES 6,D", []⟩
  | .res_6_e => ⟨true, 0xB3, 2, [2], "RES 6,E", []⟩
  | .res_6_h => ⟨true, 0xB4, 2, [2], "RES 6,H", []⟩
  | .res_6_l => ⟨true, 0xB5, 2, [2], "RES 6,L", []⟩
  | .res_6_atHL => ⟨true, 0xB6, 2, [4], "RES 6,(HL)", []⟩
  | .res_6_a => ⟨true, 0xB7, 2, [2], "RES 6,A", []⟩
  | .res_7_b => ⟨true, 0xB8, 2, [2], "RES 7,B", []⟩
  | .res_7_c => ⟨true, 0xB9, 2, [2], "RES 7,C", []⟩
  | .res_7_d => ⟨true, 0xBA, 2, [2], "RES 7,D", []⟩
  | .res_7_e => ⟨true, 0xBB, 2, [2], "RES 7,E", []⟩
  | .res_7_h => ⟨true, 0xBC, 2, [2], "RES 7,H", []⟩
  | .res_7_l => ⟨true, 0xBD, 2, [2], "RES 7,L", []⟩
  | .res_7_atHL => ⟨true, 0xBE, 2, [4], "RES 7,(HL)", []⟩
  | .res_7_a => ⟨true, 0xBF, 2, [2], "RES 7,A", []⟩
  | .set_0_b => ⟨true, 0xC0, 2, [2], "SET 0,B", []⟩
  | .set_0_c => ⟨true, 0xC1, 2, [2], "SET 0,C", []⟩
  | .set_0_d => ⟨true, 0xC2, 2, [2], "SET 0,D", []⟩
  | .set_0_e => ⟨true, 0xC3, 2, [2], "SET 0,E", []⟩
  | .set_0_h => ⟨true, 0xC4, 2, [2], "SET 0,H", []⟩
  | .set_0_l => ⟨true, 0xC5, 2, [2], "SET 0,L", []⟩
  | .set_0_atHL => ⟨true, 0xC6, 2, [4], "SET 0,(HL)", []⟩
  | .set_0_a => ⟨true, 0xC7, 2, [2], "SET 0,A", []⟩
  | .set_1_b => ⟨true, 0xC8, 2, [2], "SET 1,B", []⟩
  | .set_1_c => ⟨true, 0xC9, 2, [2], "SET 1,C", []⟩
  | .set_1_d => ⟨true, 0xCA, 2, [2], "SET 1,D", []⟩
  | .set_1_e => ⟨true, 0xCB, 2, [2], "SET 1,E", []⟩
  | .set_1_h => ⟨true, 0xCC, 2, [2], "SET 1,H", []⟩
  | .set_1_l => ⟨true, 0xCD, 2, [2], "SET 1,L", []⟩
  | .set_1_atHL => ⟨true, 0xCE, 2, [4], "SET 1,(HL)", []⟩
  | .set_1_a => ⟨true, 0xCF, 2, [2], "SET 1,A", []⟩
  | .set_2_b => ⟨true, 0xD0, 2, [2], "SET 2,B", []⟩
  | .set_2_c => ⟨true, 0xD1, 2, [2], "SET 2,C", []⟩
  | .set_2_d => ⟨true, 0xD2, 2, [2], "SET 2,D", []⟩
  | .set_2_e => ⟨true, 0xD3, 2, [2], "SET 2,E", []⟩
  | .set_2_h => ⟨true, 0xD4, 2, [2], "SET 2,H", []⟩
  | .set_2_l => ⟨true, 0xD5, 2, [2], "SET 2,L", []⟩
  | .set_2_atHL => ⟨true, 0xD6, 2, [4], "SET 2,(HL)", []⟩
  | .set_2_a => ⟨true, 0xD7, 2, [2], "SET 2,A", []⟩
  | .set_3_b => ⟨true, 0xD8, 2, [2], "SET 3,B", []⟩
  | .set_3_c => ⟨true, 0xD9, 2, [2], "SET 3,C", []⟩
  | .set_3_d => ⟨true, 0xDA, 2, [2], "SET 3,D", []⟩
  | .set_3_e => ⟨true, 0xDB, 2, [2], "SET 3,E", []⟩
  | .set_3_h => ⟨true, 0xDC, 2, [2], "SET 3,H", []⟩
  | .set_3_l => ⟨true, 0xDD, 2, [2], "SET 3,L", []⟩
  | .set_3_atHL => ⟨true, 0xDE, 2, [4], "SET 3,(HL)", []⟩
  | .set_3_a => ⟨true, 0xDF, 2, [2], "SET 3,A", []⟩
  | .set_4_b => ⟨true, 0xE0, 2, [2], "SET 4,B", []⟩
  | .set_4_c => ⟨true, 0xE1, 2, [2], "SET 4,C", []⟩
  | .set_4_d => ⟨true, 0xE2, 2, [2], "SET 4,D", []⟩
  | .set_4_e => ⟨true, 0xE3, 2, [2], "SET 4,E", []⟩
  | .set_4_h => ⟨true, 0xE4, 2, [2], "SET 4,H", []⟩
  | .set_4_l => ⟨true, 0xE5, 2, [2], "SET 4,L", []⟩
  | .set_4_atHL => ⟨true, 0xE6, 2, [4], "SET 4,(HL)", []⟩
  | .set_4_a => ⟨true, 0xE7, 2, [2], "SET 4,A", []⟩
  | .set_5_b => ⟨true, 0xE8, 2, [2], "SET 5,B", []⟩
  | .set_5_c => ⟨true, 0xE9, 2, [2], "SET 5,C", []⟩
  | .set_5_d => ⟨true, 0xEA, 2, [2], "SET 5,D", []⟩
  | .set_5_e => ⟨true, 0xEB, 2, [2], "SET 5,E", []⟩
  | .set_5_h => ⟨true, 0xEC, 2, [2], "SET 5,H", []⟩
  | .set_5_l => ⟨true, 0xED, 2, [2], "SET 5,L", []⟩
  | .set_5_atHL => ⟨true, 0xEE, 2, [4], "SET 5,(HL)", []⟩
  | .set_5_a => ⟨true, 0xEF, 2, [2], "SET 5,A", []⟩
  | .set_6_b => ⟨true, 0xF0, 2, [2], "SET 6,B", []⟩
  | .set_6_c => ⟨true, 0xF1, 2, [2], "SET 6,C", []⟩
  | .set_6_d => ⟨true, 0xF2, 2, [2], "SET 6,D", []⟩
  | .set_6_e => ⟨true, 0xF3, 2, [2], "SET 6,E", []⟩
  | .set_6_h => ⟨true, 0xF4, 2, [2], "SET 6,H", []⟩
  | .set_6_l => ⟨true, 0xF5, 2, [2], "SET 6,L", []⟩
  | .set_6_atHL => ⟨true, 0xF6, 2, [4], "SET 6,(HL)", []⟩
  | .set_6_a => ⟨true, 0xF7, 2, [2], "SET 6,A", []⟩
  | .set_7_b => ⟨true, 0xF8, 2, [2], "SET 7,B", []⟩
  | .set_7_c => ⟨true, 0xF9, 2, [2], "SET 7,C", []⟩
  | .set_7_d => ⟨true, 0xFA, 2, [2], "SET 7,D", []⟩
  | .set_7_e => ⟨true, 0xFB, 2, [2], "SET 7,E", []⟩
  | .set_7_h => ⟨true, 0xFC, 2, [2], "SET 7,H", []⟩
  | .set_7_l => ⟨true, 0xFD, 2, [2], "SET 7,L", []⟩
  | .set_7_atHL => ⟨true, 0xFE, 2, [4], "SET 7,(HL)", []⟩
  | .set_7_a => ⟨true, 0xFF, 2, [2], "SET 7,A", []⟩

/-- The bytes of an instruction in fetch order (R105): the prefix of an extended one, the opcode byte, the operand
bytes, the low byte of a word first (`20_memory.md` R69). -/
def encode (i : Instr) : List Byte :=
  (if (descriptor i).extended then [prefixByte] else []) ++ (descriptor i).opcode :: (descriptor i).operands

/-! ## A word of the opcode table -/

/-- The low `8 * n` bits of `w` as `n` bytes, bits 7..0 first. -/
def bytesOfNat : Nat → Nat → List Byte
  | 0, _ => []
  | n + 1, w => BitVec.ofNat 8 w :: bytesOfNat n (w / 256)

/-- The bytes of a table word: `nbits / 8` bytes (rounded up) of `w`, then zeros up to the longest instruction. The table
numbers an extended row with its opcode byte in bits 7..0 and, in its column `encoding`, the prefix above it: a 16-bit word
with the prefix in bits 15..8 is such a row, and memory holds the prefix first (log 18). -/
def tableBytes (nbits w : Nat) : List Byte :=
  if nbits = 16 ∧ w / 256 % 256 = 0xCB then [prefixByte, BitVec.ofNat 8 w, 0, 0, 0]
  else bytesOfNat ((nbits + 7) / 8) (w % 2 ^ nbits) ++ [0, 0, 0]

/-- The instruction the decoder reads from an instruction whose bits are `w` (bit 0 the least significant bit of the
first byte, the second byte in bits 15..8), every bit above `nbits` zero. -/
def decodeTableWord (nbits w : Nat) : Option Instr :=
  match decode (tableBytes nbits w) with
  | .ok (i, _) => some i
  | .error _ => none

end Sys2Proof
end

