-- ==== Sys2Proof/Config.lean ====
section
/-! DEFINITION. What is fixed for one machine: the named parameters of `00_scope.md` R8 with their decided values,
the fixed time ratio of R7, the free value `draw()` of R13, and what an unlisted memory byte reads as. -/

namespace Sys2Proof

/-- `START_MODE` (R8, decided BOOT): the two launch modes of `70_reset_and_hazards.md` R500-R502. -/
inductive StartMode where
  | boot | postBoot
deriving DecidableEq, Repr

/-- `ECHO_POLICY` (R8, decided MIRROR): what 0xE000-0xFDFF does (`20_memory.md` R67). -/
inductive EchoPolicy where
  | mirror | flat | fault
deriving DecidableEq, Repr

/-- The parameters of `00_scope.md` R8 that rules read during a run. They are fixed for a run: `State` carries them
in its field `params` and no step writes it (log 7). The launch inputs of R8 are arguments of `State.launch`. -/
structure Params where
  /-- `REFUSED_OPCODES`: (extended flag, byte) pairs, refused by R102. -/
  refusedOpcodes : List (Bool × Byte)
  /-- `ECHO_POLICY`. -/
  echoPolicy : EchoPolicy
  /-- `TIMER_INVOCATIONS_PER_CYCLE`. -/
  timerInvocationsPerCycle : Nat
  /-- `DOTS_PER_LINE`. -/
  dotsPerLine : Nat
  /-- `LINES_PER_FRAME`. -/
  linesPerFrame : Nat
  /-- `VISIBLE_LINES`. -/
  visibleLines : Nat
  /-- `OAM_SEARCH_DOTS`. -/
  oamSearchDots : Nat
  /-- `TRANSFER_DOTS`. -/
  transferDots : Nat
  /-- `FETCH_QUEUE_THRESHOLD`. -/
  fetchQueueThreshold : Nat
deriving DecidableEq, Repr

/-- The values decided for this hardware (R8, decisions D3, D7, D14, D23). -/
def Config.decided : Params where
  refusedOpcodes := []
  echoPolicy := .mirror
  timerInvocationsPerCycle := 4
  dotsPerLine := 456
  linesPerFrame := 154
  visibleLines := 144
  oamSearchDots := 80
  transferDots := 172
  fetchQueueThreshold := 8

/-- `DOTS_PER_CYCLE = 4` (R7): "four dots per processor cycle". -/
def Config.dotsPerCycle : Nat := 4

/-- `draw()` (R13): the k-th free input of a run, a byte under no law. No body: nothing can be proved of a value.
`State.draws` counts the inputs taken, so each use is a fresh one (log 3). -/
opaque Config.draw : Nat → Byte

/-- What a byte of RAM or ROM that no cell lists reads as. DESIGN CHOICE (logs 5, 6), unsafe: the spec takes RAM and
ROM contents as launch inputs under no law (D6, D19, D20). For a storage I/O register it is the reset value 0x00 of
`10_state.md` R47. -/
def Config.unlisted : Byte := 0x00

end Sys2Proof
end

