-- ==== Sys2Proof/Machine/State.lean ====
section
/-! DEFINITION. The state of the block as plain data (`10_state.md`), the faults and the refusal, and the state right
after reset (`70_reset_and_hazards.md` R500-R502). -/

namespace Sys2Proof.Machine

/-- Byte storage as a sparse list of (address, byte) cells; an unlisted address reads `Config.unlisted`. The canonical
form is `Mem.wf` (Safety.lean). -/
abbrev Mem := List Host.Cell

/-- The four flags (R22). F is these at bits 7..4; its bits 3:0 are hard-wired 0, so they have no storage. -/
structure Flags where
  z : Bool
  n : Bool
  h : Bool
  c : Bool
deriving DecidableEq, Repr

/-- The register file but PC (R20-R23): the byte registers, the flags and SP. The pairs AF, BC, DE, HL are views of
the same storage (R21). -/
structure Regs where
  a : Byte
  f : Flags
  b : Byte
  c : Byte
  d : Byte
  e : Byte
  h : Byte
  l : Byte
  sp : Word
deriving DecidableEq, Repr

/-- `run_state` (R35). -/
inductive RunState where
  | running | halted | stopped
deriving DecidableEq, Repr

/-- The timing controller (R50) with its registers TIMA, TMA, TAC (R40-R42); DIV is `divCounter[15:8]` (R39). -/
structure Timer where
  /-- `div_counter`. -/
  divCounter : Word
  tima : Byte
  tma : Byte
  /-- TAC bits 2:0; bit 2 enables, bits 1:0 select. -/
  tac : BitVec 3
  /-- `last_tap`. -/
  lastTap : Bool
  /-- `ovf_pending`. -/
  ovfPending : Bool
  /-- `ovf_step`, 0..4. -/
  ovfStep : Fin 5
  /-- `reload_armed`. -/
  reloadArmed : Bool
  /-- `irq_armed`. -/
  irqArmed : Bool
deriving DecidableEq, Repr

/-- `ppu_mode` (R51, R443). -/
inductive PpuMode where
  | oamSearch | transfer | hblank | vblank
deriving DecidableEq, Repr

/-- `fetch_phase` (R51, R445). -/
inductive FetchPhase where
  | readTileId | readDataLow | readDataHigh | idle
deriving DecidableEq, Repr

/-- The scanline controller and the pixel fetcher (R51), with the host output `pixels_out` (R447). -/
structure Ppu where
  /-- `ppu_dot`. -/
  dot : Word
  /-- `ppu_line`; LY reads it (R45). -/
  line : Byte
  /-- `ppu_mode`. -/
  mode : PpuMode
  /-- `fetch_phase`. -/
  phase : FetchPhase
  /-- `fetch_div`. -/
  fetchDiv : Bool
  /-- `fetch_tile_id`. -/
  tileId : Byte
  /-- `fetch_lo`. -/
  lo : Byte
  /-- `fetch_hi`. -/
  hi : Byte
  /-- `fetch_col`, 0..31. -/
  col : BitVec 5
  /-- `pixel_queue`, oldest first. -/
  queue : List (BitVec 2)
  /-- `pixels_out`: (line, colour index), oldest first. -/
  pixelsOut : List (Byte × BitVec 2)
deriving DecidableEq, Repr

/-- One entry of the fault record (R53): a kind of `60_exceptions.md` R400 with its recorded value. -/
inductive FaultRecord where
  /-- Code 1: (ext, op, pc0). -/
  | illegalOpcode (ext : Bool) (op : Byte) (pc0 : Word)
  /-- Code 2: (ext, op, pc0). -/
  | refusedOpcode (ext : Bool) (op : Byte) (pc0 : Word)
  /-- Code 3: the address written. -/
  | unmodelledDevice (addr : Word)
  /-- Code 4: the address. -/
  | restrictedAccess (addr : Word)
  /-- Code 5: the address after HALT. -/
  | unmodelledHaltBug (pc : Word)
  /-- Code 6: SP. -/
  | dispatchPushToIE (sp : Word)
deriving DecidableEq, Repr

/-- Everything the spec gives the machine (`10_state.md`, `70_reset_and_hazards.md` R501), and the model's own fields
`params`, `draws`, `stepCycles`, `opAddr` (logs 7, 3, 8). -/
structure State where
  /-- A, F, B, C, D, E, H, L, SP (R20-R23). -/
  regs : Regs
  /-- PC (R24). -/
  pc : Word
  /-- IME (R33). -/
  ime : Bool
  /-- `ei_pending` (R34). -/
  eiPending : Bool
  /-- `run_state` (R35). -/
  runState : RunState
  /-- `halt_bug` (R36). -/
  haltBug : Bool
  /-- IE, 0xFFFF (R37). -/
  ie : Byte
  /-- IF bits 4:0, 0xFF0F (R38). -/
  iflag : BitVec 5
  /-- LCDC, 0xFF40 (R43). -/
  lcdc : Byte
  /-- `boot_rom_mapped` (R46). -/
  bootRomMapped : Bool
  /-- The timing controller (R39-R42, R50). -/
  timer : Timer
  /-- The scanline controller and fetcher (R51). -/
  ppu : Ppu
  /-- The storage I/O registers, by address (R44, R47). -/
  io : Mem
  /-- The RAM bytes, by address (R54); under FLAT the echo region's too (R67). -/
  ram : Mem
  /-- `BOOT_ROM` (R8, R64); constant. -/
  bootRom : Mem
  /-- `CART_ROM` (R8, R65); constant. -/
  cartRom : Mem
  /-- `BREAKPOINT` (R52): set by the debugger between steps (R513). -/
  breakpoint : Option Word
  /-- `break_hit` (R52). -/
  breakHit : Bool
  /-- The fault record (R53), newest first. -/
  faults : List FaultRecord
  /-- The parameters of R8; constant. -/
  params : Params
  /-- How many `draw()` inputs have been taken (R13). -/
  draws : Nat
  /-- The cycle count the CPU's work of the last step returned (R100, R102). -/
  stepCycles : Nat
  /-- R102's `pc0`: where the current instruction's opcode was read. -/
  opAddr : Word
deriving DecidableEq, Repr

/-- Why a step is a fault: the six kinds of `60_exceptions.md` R400 and the two states that have no step (R100). Each
carries the state the fault leaves (R401: earlier changes of the step stay, the record holds the fault, the devices did
not advance). All safe: the machine stops where the spec stops it (log 1). -/
inductive Fault where
  /-- Raised by the eleven absent opcode rows (R121, R402). Safe. -/
  | illegalOpcode (left : State)
  /-- Raised by the fetch, and by the prefix row, on an opcode of `REFUSED_OPCODES` (R102). Safe. -/
  | refusedOpcode (left : State)
  /-- Raised by a CPU write to 0xFF46 or 0xFF51-0xFF55 (`10_state.md` R48). Safe. -/
  | unmodelledDevice (left : State)
  /-- Raised by a CPU read or write of the echo region under ECHO_POLICY = FAULT (`20_memory.md` R67). Safe. -/
  | restrictedAccess (left : State)
  /-- Raised by HALT just after EI with an enabled request pending (`40_nop_stop_halt.md` R202, R203). Safe. -/
  | unmodelledHaltBug (left : State)
  /-- Raised by interrupt dispatch with SP = 0x0000 or 0x0001 (R412). Safe. -/
  | dispatchPushToIE (left : State)
  /-- Raised by a step of a machine whose fault record is not empty: "no step" (R100, R401). Safe. -/
  | alreadyFaulted (left : State)
  /-- Raised by a step of a STOPPED machine: stuck, "no step" (R100, R201). Safe. -/
  | stuckStopped (left : State)
deriving DecidableEq, Repr

/-- Why an instruction is refused. -/
inductive Refusal where
  /-- Raised by an arm of `exec` for an instruction not modelled yet; no arm does. Safe. -/
  | notModelled (mnemonic : String)
deriving DecidableEq, Repr

/-! ## Reset -/

/-- The launch inputs of `00_scope.md` R8 and R503. -/
structure Launch where
  startMode : StartMode
  bootRom : Mem
  cartRom : Mem
  /-- `INIT_REGS`; F's bits 3:0 have no value to give (R501). -/
  initRegs : Regs
  initMem : Mem
  params : Params
  breakpoint : Option Word
deriving DecidableEq, Repr

/-- R502: the register file in START_MODE = POST_BOOT. -/
def postBootRegs : Regs where
  a := 0x01
  f := ⟨true, false, true, true⟩
  b := 0x00
  c := 0x13
  d := 0x00
  e := 0xD8
  h := 0x01
  l := 0x4D
  sp := 0xFFFE

/-- The timer at reset (R501), `div_counter` apart. -/
def Timer.reset (divCounter : Word) : Timer where
  divCounter := divCounter
  tima := 0
  tma := 0
  tac := 0
  lastTap := false
  ovfPending := false
  ovfStep := 0
  reloadArmed := false
  irqArmed := false

/-- The scanline controller and fetcher at reset (R51, R501). -/
def Ppu.reset : Ppu where
  dot := 0
  line := 0
  mode := .oamSearch
  phase := .readTileId
  fetchDiv := false
  tileId := 0
  lo := 0
  hi := 0
  col := 0
  queue := []
  pixelsOut := []

/-- The table of R501 (with R502) for a launch: every piece of state at its reset value. -/
def State.launch (k : Launch) : State where
  regs := match k.startMode with
    | .boot => k.initRegs
    | .postBoot => postBootRegs
  pc := match k.startMode with
    | .boot => 0x0000
    | .postBoot => 0x0100
  ime := false
  eiPending := false
  runState := .running
  haltBug := false
  ie := 0x00
  iflag := match k.startMode with
    | .boot => 0
    | .postBoot => 1
  lcdc := match k.startMode with
    | .boot => 0x00
    | .postBoot => 0x91
  bootRomMapped := match k.startMode with
    | .boot => true
    | .postBoot => false
  timer := match k.startMode with
    | .boot => Timer.reset 0x0000
    | .postBoot => Timer.reset 0xABCC
  ppu := Ppu.reset
  io := match k.startMode with
    | .boot => []
    | .postBoot => [(0xFF47, 0xFC)]
  ram := k.initMem
  bootRom := k.bootRom
  cartRom := k.cartRom
  breakpoint := k.breakpoint
  breakHit := false
  faults := []
  params := k.params
  draws := 0
  stepCycles := 0
  opAddr := 0x0000

/-- The launch of `State.reset`: the decided parameters (START_MODE = BOOT, BREAKPOINT none), and for the launch inputs
no image, all registers zero, all RAM zero. DESIGN CHOICE (logs 4, 5, 6), unsafe: the spec allows any values. -/
def Launch.default : Launch where
  startMode := .boot
  bootRom := []
  cartRom := []
  initRegs := ⟨0, ⟨false, false, false, false⟩, 0, 0, 0, 0, 0, 0, 0⟩
  initMem := []
  params := Config.decided
  breakpoint := none

/-- The machine right after reset (R500, R501). -/
def State.reset : State := State.launch Launch.default

end Sys2Proof.Machine
end

