-- ==== Sys2Proof/Machine/Ops.lean ====
section
/-! DEFINITION. The named operations every meaning is written with: results and faults, byte storage, the address
decoder and the I/O registers, the byte accesses of the CPU, the register file, the stack, interrupt dispatch and the
return from it. -/

namespace Sys2Proof.Machine

/-! ## Results and faults (`00_scope.md` R13, `60_exceptions.md` R400, R401) -/

/-- What an operation answers: a value and state to go on with, or the end of the step. -/
abbrev Res (α : Type) := Host.Outcome α Fault Refusal

/-- Statements in order (R14): go on with `f` unless the step has ended (R401). -/
def andThen {α β : Type} (o : Res α) (f : α → Res β) : Res β :=
  match o with
  | .next x => f x
  | .fault r => .fault r
  | .refused r => .refused r

/-- R400's code of a kind. -/
def FaultRecord.code : FaultRecord → Nat
  | .illegalOpcode _ _ _ => 1
  | .refusedOpcode _ _ _ => 2
  | .unmodelledDevice _ => 3
  | .restrictedAccess _ => 4
  | .unmodelledHaltBug _ => 5
  | .dispatchPushToIE _ => 6

/-- R401: the fault joins the record; everything the step did before stays. -/
def recordFault (r : FaultRecord) (s : State) : State := { s with faults := r :: s.faults }

/-- The fault outcome of a kind, with the state it leaves. -/
def faultOf (r : FaultRecord) (left : State) : Fault :=
  match r with
  | .illegalOpcode _ _ _ => .illegalOpcode left
  | .refusedOpcode _ _ _ => .refusedOpcode left
  | .unmodelledDevice _ => .unmodelledDevice left
  | .restrictedAccess _ => .restrictedAccess left
  | .unmodelledHaltBug _ => .unmodelledHaltBug left
  | .dispatchPushToIE _ => .dispatchPushToIE left

/-- `raise Fault(kind, value)` (R13, R401): the step ends at once. -/
def raise {α : Type} (r : FaultRecord) (s : State) : Res α := .fault (faultOf r (recordFault r s))

/-- The instruction's effect is complete and it took `n` cycles: `return n` of its rule (R102). -/
def State.took (n : Nat) (s : State) : State := { s with stepCycles := n }

/-! ## Byte storage -/

/-- The byte at `a`. -/
def Mem.read : Mem → Nat → Byte
  | [], _ => Config.unlisted
  | (k, v) :: m, a => if k = a then v else Mem.read m a

/-- The cells without one at `a`. -/
def Mem.erase : Mem → Nat → Mem
  | [], _ => []
  | (k, v) :: m, a => if k = a then Mem.erase m a else (k, v) :: Mem.erase m a

/-- Puts a cell in front of the first cell with a larger address. -/
def Mem.insert : Mem → Nat → Byte → Mem
  | [], a, v => [(a, v)]
  | (k, w) :: m, a, v => if a < k then (a, v) :: (k, w) :: m else (k, w) :: Mem.insert m a v

/-- `m[a] <- v`, in canonical form: no cell for a byte equal to what an unlisted address reads as. -/
def Mem.write (m : Mem) (a : Nat) (v : Byte) : Mem :=
  if v = Config.unlisted then Mem.erase m a else Mem.insert (Mem.erase m a) a v

/-! ## Address decoder (`20_memory.md` R62, R63) -/

/-- The eleven regions of R62. -/
inductive Region where
  | cartFixed | cartSwitchable | vram | cartRam | wramFixed | wramSwitchable | echo | oam | io | hram | ie
deriving DecidableEq, Repr

/-- R62's table: each region with its last address, in ascending order. -/
def regionTable : List (Region × Nat) :=
  [(.cartFixed, 0x3FFF), (.cartSwitchable, 0x7FFF), (.vram, 0x9FFF), (.cartRam, 0xBFFF), (.wramFixed, 0xCFFF),
   (.wramSwitchable, 0xDFFF), (.echo, 0xFDFF), (.oam, 0xFEFF), (.io, 0xFF7F), (.hram, 0xFFFE), (.ie, 0xFFFF)]

/-- R63: the first interval whose upper bound is at least the address. -/
def scanRegions : List (Region × Nat) → Nat → Region
  | [], _ => .ie
  | (r, last) :: t, a => if a ≤ last then r else scanRegions t a

/-- R63: `region(addr)`. -/
def region (a : Word) : Region := scanRegions regionTable a.toNat

/-! ## I/O registers (`10_state.md` R38-R49) -/

/-- What an I/O address is. `storage` reads the last value written (R47); `unnamed` is R49. -/
inductive IoReg where
  | joypad | storage | div | tima | tma | tac | ifReg | lcdc | stat | ly | boot | dma | unnamed
deriving DecidableEq, Repr

/-- R38-R49, by offset from 0xFF00 (0x00-0x7F). -/
def ioRegAt (off : Nat) : IoReg :=
  if off = 0x00 then .joypad
  else if off ≤ 0x02 then .storage
  else if off = 0x03 then .unnamed
  else if off = 0x04 then .div
  else if off = 0x05 then .tima
  else if off = 0x06 then .tma
  else if off = 0x07 then .tac
  else if off ≤ 0x0E then .unnamed
  else if off = 0x0F then .ifReg
  else if off ≤ 0x26 then .storage
  else if off ≤ 0x2F then .unnamed
  else if off ≤ 0x3F then .storage
  else if off = 0x40 then .lcdc
  else if off = 0x41 then .stat
  else if off ≤ 0x43 then .storage
  else if off = 0x44 then .ly
  else if off = 0x45 then .storage
  else if off = 0x46 then .dma
  else if off ≤ 0x4B then .storage
  else if off ≤ 0x4E then .unnamed
  else if off = 0x4F then .storage
  else if off = 0x50 then .boot
  else if off ≤ 0x55 then .dma
  else if off ≤ 0x67 then .unnamed
  else if off ≤ 0x69 then .storage
  else if off ≤ 0x6F then .unnamed
  else if off = 0x70 then .storage
  else .unnamed

/-- The register at an address of the I/O region: its offset is the low byte. -/
def ioReg (a : Word) : IoReg := ioRegAt (loByte a).toNat

/-- R38-R49: a read of this register takes a `draw()`, for all its bits or for the unused ones (IF, TAC). -/
def IoReg.drawn : IoReg → Bool
  | .joypad => true
  | .storage => false
  | .div => false
  | .tima => false
  | .tma => false
  | .tac => true
  | .ifReg => true
  | .lcdc => false
  | .stat => true
  | .ly => false
  | .boot => true
  | .dma => true
  | .unnamed => true

/-- The next `draw()` input (R13). -/
def State.nextDraw (s : State) : Byte := Config.draw s.draws

/-- `io_read(addr)`'s value (R38-R49). -/
def State.ioPeek (s : State) (a : Word) : Byte :=
  match ioReg a with
  | .joypad => s.nextDraw
  | .storage => s.io.read a.toNat
  | .div => hiByte s.timer.divCounter
  | .tima => s.timer.tima
  | .tma => s.timer.tma
  | .tac => s.nextDraw.extractLsb' 3 5 ++ s.timer.tac
  | .ifReg => s.nextDraw.extractLsb' 5 3 ++ s.iflag
  | .lcdc => s.lcdc
  | .stat => s.nextDraw
  | .ly => s.ppu.line
  | .boot => s.nextDraw
  | .dma => s.nextDraw
  | .unnamed => s.nextDraw

/-- R435: a CPU write to TIMA, with the cancellations inside an overflow window. -/
def Timer.writeTima (v : Byte) (t : Timer) : Timer :=
  if t.ovfPending then
    { t with tima := v, irqArmed := false, reloadArmed := if t.ovfStep < 3 then false else t.reloadArmed }
  else { t with tima := v }

/-- `io_write(addr, v)` (R38-R49) where it does not fault. -/
def State.ioPoke (s : State) (a : Word) (v : Byte) : State :=
  match ioReg a with
  | .joypad => { s with io := s.io.write a.toNat v }
  | .storage => { s with io := s.io.write a.toNat v }
  | .div => { s with timer := { s.timer with divCounter := 0 } }
  | .tima => { s with timer := s.timer.writeTima v }
  | .tma => { s with timer := { s.timer with tma := v } }
  | .tac => { s with timer := { s.timer with tac := v.extractLsb' 0 3 } }
  | .ifReg => { s with iflag := v.extractLsb' 0 5 }
  | .lcdc => { s with lcdc := v }
  | .stat => { s with io := s.io.write a.toNat v }
  | .ly => s
  | .boot => if v = 0 then s else { s with bootRomMapped := false }
  | .dma => s
  | .unnamed => s

/-! ## The byte accesses (`00_scope.md` R12, `20_memory.md` R65-R68) -/

/-- Where ECHO_POLICY = MIRROR sends an address of the echo region (R67). -/
def echoTarget (p : EchoPolicy) (a : Word) : Word :=
  match p with
  | .mirror => a - 0x2000
  | .flat => a
  | .fault => a

/-- R68: an address of the OAM page that is storage. -/
def oamStored (a : Word) : Bool := decide (a.toNat ≤ 0xFE9F)

/-- R65: the byte `MemRead(addr, 1)` returns where it does not fault. -/
def State.peek (s : State) (a : Word) : Byte :=
  match region a with
  | .cartFixed =>
    if s.bootRomMapped = true ∧ a.toNat < 0x0100 then s.bootRom.read a.toNat else s.cartRom.read a.toNat
  | .cartSwitchable => s.cartRom.read a.toNat
  | .vram => s.ram.read a.toNat
  | .cartRam => s.ram.read a.toNat
  | .wramFixed => s.ram.read a.toNat
  | .wramSwitchable => s.ram.read a.toNat
  | .echo => s.ram.read (echoTarget s.params.echoPolicy a).toNat
  | .oam => if oamStored a then s.ram.read a.toNat else s.nextDraw
  | .io => s.ioPeek a
  | .hram => s.ram.read a.toNat
  | .ie => s.ie

/-- R65, R68, R74: a read of this address takes a `draw()`. -/
def drawnAt (a : Word) : Bool :=
  match region a with
  | .oam => !oamStored a
  | .io => (ioReg a).drawn
  | _ => false

/-- R67: an access to this address is restricted (ECHO_POLICY = FAULT). -/
def State.restricted (s : State) (a : Word) : Bool :=
  decide (region a = .echo ∧ s.params.echoPolicy = .fault)

/-- The state after a read: only the `draw()` counter moves (R65: "A read changes no state"). -/
def State.afterRead (s : State) (a : Word) : State :=
  if drawnAt a then { s with draws := s.draws + 1 } else s

/-- `MemRead(addr, 1)` (R12, R65). -/
def memRead (a : Word) (s : State) : Res (Byte × State) :=
  if s.restricted a then raise (.restrictedAccess a) s else .next (s.peek a, s.afterRead a)

/-- `10_state.md` R48: a DMA register. -/
def isDma (a : Word) : Bool := decide (region a = .io ∧ ioReg a = .dma)

/-- R66: the state after `MemWrite(addr, 1, v)` where it does not fault. -/
def State.poke (s : State) (a : Word) (v : Byte) : State :=
  match region a with
  | .cartFixed => s
  | .cartSwitchable => s
  | .vram => { s with ram := s.ram.write a.toNat v }
  | .cartRam => { s with ram := s.ram.write a.toNat v }
  | .wramFixed => { s with ram := s.ram.write a.toNat v }
  | .wramSwitchable => { s with ram := s.ram.write a.toNat v }
  | .echo => { s with ram := s.ram.write (echoTarget s.params.echoPolicy a).toNat v }
  | .oam => if oamStored a then { s with ram := s.ram.write a.toNat v } else s
  | .io => s.ioPoke a v
  | .hram => { s with ram := s.ram.write a.toNat v }
  | .ie => { s with ie := v }

/-- `MemWrite(addr, 1, v)` (R12, R66). -/
def memWrite (a : Word) (v : Byte) (s : State) : Res State :=
  if s.restricted a then raise (.restrictedAccess a) s
  else if isDma a then raise (.unmodelledDevice a) s
  else .next (s.poke a v)

/-- `MemRead16(a)` (R12, R70): the byte at `a`, then the byte at `a + 1`, which is the high one. -/
def memRead16 (a : Word) (s : State) : Res (Word × State) :=
  andThen (memRead a s) fun (lo, s1) =>
  andThen (memRead (a + 1) s1) fun (hi, s2) => .next (joinBytes hi lo, s2)

/-- `MemWrite16(a, v)` (R12): `v[7:0]` at `a`, then `v[15:8]` at `a + 1`. -/
def memWrite16 (a v : Word) (s : State) : Res State :=
  andThen (memWrite a (loByte v) s) fun s1 => memWrite (a + 1) (hiByte v) s1

/-! ## The bus primitive with a length (`20_memory.md` R61) -/

/-- What the bus answers: bytes, or `Fail(OutOfRange)`, which is no fault of a step. -/
inductive BusAnswer (α : Type) where
  | ok (x : α)
  | outOfRange
deriving DecidableEq, Repr

/-- The bytes at `a`, `a + 1`, ... one `MemRead` each. -/
def readBytes : Nat → Word → State → Res (List Byte × State)
  | 0, _, s => .next ([], s)
  | n + 1, a, s =>
    andThen (memRead a s) fun (v, s1) =>
    andThen (readBytes n (a + 1) s1) fun (vs, s2) => .next (v :: vs, s2)

/-- One `MemWrite` for each byte. -/
def writeBytes : List Byte → Word → State → Res State
  | [], _, s => .next s
  | v :: vs, a, s => andThen (memWrite a v s) fun s1 => writeBytes vs (a + 1) s1

/-- R61: `read(address, length)`; fails when `address + length` exceeds 0x10000. -/
def busRead (addr : Nat) (length : Nat) (s : State) : BusAnswer (Res (List Byte × State)) :=
  if addr + length ≤ 0x10000 then .ok (readBytes length (BitVec.ofNat 16 addr) s) else .outOfRange

/-- R61: `write(address, bytes)`. -/
def busWrite (addr : Nat) (bytes : List Byte) (s : State) : BusAnswer (Res State) :=
  if addr + bytes.length ≤ 0x10000 then .ok (writeBytes bytes (BitVec.ofNat 16 addr) s) else .outOfRange

/-! ## The register file (`10_state.md` R20-R23) -/

/-- F as a byte (R22): the flags at bits 7..4, zeros below. -/
def Flags.toByte (f : Flags) : Byte :=
  BitVec.ofBool f.z ++ BitVec.ofBool f.n ++ BitVec.ofBool f.h ++ BitVec.ofBool f.c ++ (0 : BitVec 4)

/-- A write of `v` to F (R22): it stores `v & 0xF0`. -/
def Flags.ofByte (v : Byte) : Flags := ⟨v.getLsbD 7, v.getLsbD 6, v.getLsbD 5, v.getLsbD 4⟩

/-- A register of R110. -/
def Regs.get8 (r : Regs) : R8 → Byte
  | .b => r.b
  | .c => r.c
  | .d => r.d
  | .e => r.e
  | .h => r.h
  | .l => r.l
  | .a => r.a

/-- R21: a byte register is half of its pair and writing it changes nothing else. -/
def Regs.set8 (r : Regs) (x : R8) (v : Byte) : Regs :=
  match x with
  | .b => { r with b := v }
  | .c => { r with c := v }
  | .d => { r with d := v }
  | .e => { r with e := v }
  | .h => { r with h := v }
  | .l => { r with l := v }
  | .a => { r with a := v }

/-- BC (R21). -/
def Regs.bc (r : Regs) : Word := joinBytes r.b r.c

/-- DE (R21). -/
def Regs.de (r : Regs) : Word := joinBytes r.d r.e

/-- HL (R21). -/
def Regs.hl (r : Regs) : Word := joinBytes r.h r.l

/-- AF (R21, R22). -/
def Regs.af (r : Regs) : Word := joinBytes r.a r.f.toByte

/-- BC <- v (R21). -/
def Regs.setBC (r : Regs) (v : Word) : Regs := { r with b := hiByte v, c := loByte v }

/-- DE <- v (R21). -/
def Regs.setDE (r : Regs) (v : Word) : Regs := { r with d := hiByte v, e := loByte v }

/-- HL <- v (R21). -/
def Regs.setHL (r : Regs) (v : Word) : Regs := { r with h := hiByte v, l := loByte v }

/-- AF <- v, bits 3:0 of F staying 0 (R22, R262). -/
def Regs.setAF (r : Regs) (v : Word) : Regs := { r with a := hiByte v, f := Flags.ofByte (loByte v) }

/-- A pair of R111. -/
def Regs.get16 (r : Regs) : R16 → Word
  | .bc => r.bc
  | .de => r.de
  | .hl => r.hl
  | .sp => r.sp

/-- A write to a pair of R111. -/
def Regs.set16 (r : Regs) (x : R16) (v : Word) : Regs :=
  match x with
  | .bc => r.setBC v
  | .de => r.setDE v
  | .hl => r.setHL v
  | .sp => { r with sp := v }

/-- A pair of R112. -/
def Regs.getStk (r : Regs) : R16Stk → Word
  | .bc => r.bc
  | .de => r.de
  | .hl => r.hl
  | .af => r.af

/-- A write to a pair of R112 (R262). -/
def Regs.setStk (r : Regs) (x : R16Stk) (v : Word) : Regs :=
  match x with
  | .bc => r.setBC v
  | .de => r.setDE v
  | .hl => r.setHL v
  | .af => r.setAF v

/-- `R8[i] <- v` in the state. -/
def State.set8 (s : State) (x : R8) (v : Byte) : State := { s with regs := s.regs.set8 x v }

/-- `R16[p] <- v` in the state. -/
def State.set16 (s : State) (x : R16) (v : Word) : State := { s with regs := s.regs.set16 x v }

/-- `R16STK[p] <- v` in the state. -/
def State.setStk (s : State) (x : R16Stk) (v : Word) : State := { s with regs := s.regs.setStk x v }

/-- `A <- v` in the state. -/
def State.setA (s : State) (v : Byte) : State := { s with regs := { s.regs with a := v } }

/-- `HL <- v` in the state. -/
def State.setHL (s : State) (v : Word) : State := { s with regs := s.regs.setHL v }

/-- `SP <- v` in the state. -/
def State.setSP (s : State) (v : Word) : State := { s with regs := { s.regs with sp := v } }

/-- The flags in the state. -/
def State.setF (s : State) (f : Flags) : State := { s with regs := { s.regs with f := f } }

/-- `PC <- v` (R11). -/
def State.setPC (s : State) (v : Word) : State := { s with pc := v }

/-! ## The stack (`43_push_pop.md` R260) -/

/-- `push16(v)`: SP is decremented before each byte; the high byte first, at the higher address. -/
def push16 (v : Word) (s : State) : Res State :=
  andThen (memWrite (s.regs.sp - 1) (hiByte v) (s.setSP (s.regs.sp - 1))) fun s1 =>
  memWrite (s1.regs.sp - 1) (loByte v) (s1.setSP (s1.regs.sp - 1))

/-- `pop16()`: SP is incremented after each byte; the low byte first. -/
def pop16 (s : State) : Res (Word × State) :=
  andThen (memRead s.regs.sp s) fun (lo, s1) =>
  andThen (memRead (s1.regs.sp + 1) (s1.setSP (s1.regs.sp + 1))) fun (hi, s2) =>
  .next (joinBytes hi lo, s2.setSP (s2.regs.sp + 1))

/-! ## Interrupts (`60_exceptions.md` R410-R415) -/

/-- `pending = IE & IF & 0x1F` (R411). -/
def State.pending (s : State) : BitVec 5 := s.ie.extractLsb' 0 5 &&& s.iflag

/-- R411: the lowest set bit of a non-empty pending set. -/
def lowestBit (p : BitVec 5) : Nat :=
  if p.getLsbD 0 then 0
  else if p.getLsbD 1 then 1
  else if p.getLsbD 2 then 2
  else if p.getLsbD 3 then 3
  else 4

/-- R413: `0x0040 + 8 * k`. -/
def vector (k : Nat) : Word := BitVec.ofNat 16 (0x0040 + 8 * k)

/-- `IF[k] <- 0`. -/
def clearBit5 (f : BitVec 5) (k : Nat) : BitVec 5 := f &&& ~~~(1#5 <<< k)

/-- R412's changes before the push: IME and `ei_pending` cleared and the dispatched request cleared. -/
def State.acknowledge (s : State) (k : Nat) : State :=
  { s with ime := false, eiPending := false, iflag := clearBit5 s.iflag k }

/-- R412: taking an interrupt. PC is pushed, IME, `ei_pending` and the request are cleared, PC is the vector. -/
def dispatch (s : State) : Res State :=
  if s.regs.sp = 0x0000 ∨ s.regs.sp = 0x0001 then raise (.dispatchPushToIE s.regs.sp) s
  else
    andThen (push16 s.pc (s.acknowledge (lowestBit s.pending))) fun s1 =>
    .next ((s1.setPC (vector (lowestBit s.pending))).took 5)

/-- R415 and `41_control_transfer.md` R219: the return. PC is popped and IME is 1 at once. -/
def interruptReturn (s : State) : Res State :=
  andThen (pop16 s) fun (v, s1) => .next { s1.setPC v with ime := true, eiPending := false }

/-- R414: one halted step. -/
def haltedStep (s : State) : State :=
  if s.pending = 0 then s.took 1 else { s.took 1 with runState := .running }

/-! ## The rest of R100's step -/

/-- What the next step does (R100), in the order of R403. -/
inductive StepKind where
  | faulted | stopped | halted | dispatch | execute
deriving DecidableEq, Repr

/-- R100's case distinction. -/
def State.stepKind (s : State) : StepKind :=
  if s.faults ≠ [] then .faulted
  else
    match s.runState with
    | .stopped => .stopped
    | .halted => .halted
    | .running => if s.ime = true ∧ s.pending ≠ 0 then .dispatch else .execute

/-- R100 after an executed instruction: the EI delay, then `break_hit` (R450). `enableAfter` is `ei_pending` as it was
before the instruction. -/
def finishInstr (enableAfter : Bool) (s : State) : State :=
  { s with
    ime := if enableAfter = true ∧ s.eiPending = true then true else s.ime
    eiPending := if enableAfter = true ∧ s.eiPending = true then false else s.eiPending
    breakHit := decide (s.breakpoint = some s.pc) }

/-! ## The host (`70_reset_and_hazards.md` R513) -/

/-- The debugger sets or clears the single breakpoint address between steps. -/
def State.setBreakpoint (s : State) (b : Option Word) : State := { s with breakpoint := b }

/-- A byte of a program put where the CPU reads `a`: the store R65 reads, or nothing where a read gives no stored byte. -/
def State.placeByte (s : State) (a : Word) (v : Byte) : State :=
  match region a with
  | .cartFixed =>
    if s.bootRomMapped = true ∧ a.toNat < 0x0100 then { s with bootRom := s.bootRom.write a.toNat v }
    else { s with cartRom := s.cartRom.write a.toNat v }
  | .cartSwitchable => { s with cartRom := s.cartRom.write a.toNat v }
  | _ => if isDma a then s else s.poke a v

/-- An address whose byte a program can be put in: ROM, RAM, the storage I/O registers. Not IE: a byte put there could
make an interrupt due. -/
def State.placeable (s : State) (a : Word) : Bool :=
  !s.restricted a &&
  match region a with
  | .oam => oamStored a
  | .io => decide (ioReg a = .storage)
  | .ie => false
  | _ => true

/-- The bytes at `a`, `a + 1`, ... -/
def State.placeBytes (s : State) (a : Word) : List Byte → State
  | [] => s
  | v :: vs => State.placeBytes (s.placeByte a v) (a + 1) vs

/-- Where the next instruction can be put: PC, unless one of the three bytes there has no store a program can be put in,
and then work RAM (log 10). -/
def State.placeAddr (s : State) : Word :=
  if s.placeable s.pc && s.placeable (s.pc + 1) && s.placeable (s.pc + 2) then s.pc else 0xC000

/-- The state whose next step fetches and executes (R100): running, no fault recorded, no HALT bug pending, and IME off
if a dispatch would come first. From State.reset nothing changes. -/
def State.readyToExecute (s : State) : State :=
  { s with
    faults := []
    runState := .running
    haltBug := false
    ime := if s.pending = 0 then s.ime else false
    pc := s.placeAddr }

end Sys2Proof.Machine
end

