-- ==== Sys2Proof/Machine/Pixels.lean ====
section
/-! DEFINITION. The scanline controller and the pixel fetcher (`60_exceptions.md` R440-R448). -/

namespace Sys2Proof.Machine

/-- R445: `map_base`. -/
def mapBase (lcdc : Byte) : Nat := if lcdc.getLsbD 3 then 0x9C00 else 0x9800

/-- R445: `tile_addr(id)`: an unsigned index from 0x8000 or a signed one from 0x9000. -/
def tileAddr (lcdc id : Byte) : Word :=
  if lcdc.getLsbD 4 then 0x8000 + 16#16 * zext16 id else 0x9000 + 16#16 * sext16 id

/-- R445: the address of the tile id the fetcher reads. -/
def tileIdAddr (lcdc line : Byte) (col : BitVec 5) : Nat := mapBase lcdc + 32 * (line.toNat / 8) + col.toNat

/-- R445: the address of the low byte of the tile row. -/
def tileRowAddr (lcdc id line : Byte) : Word := tileAddr lcdc id + BitVec.ofNat 16 (2 * (line.toNat % 8))

/-- R445: `fetch_hi[b] ++ fetch_lo[b]`, a 2-bit colour index. -/
def pixelAt (hi lo : Byte) (b : Nat) : BitVec 2 := BitVec.ofBool (hi.getLsbD b) ++ BitVec.ofBool (lo.getLsbD b)

/-- R445: the eight pixels of a tile row, bit 7 first. -/
def tilePixels (hi lo : Byte) : List (BitVec 2) :=
  [pixelAt hi lo 7, pixelAt hi lo 6, pixelAt hi lo 5, pixelAt hi lo 4,
   pixelAt hi lo 3, pixelAt hi lo 2, pixelAt hi lo 1, pixelAt hi lo 0]

/-- R445: `fetcher_line_start()`. -/
def Ppu.lineStart (u : Ppu) : Ppu := { u with phase := .readTileId, fetchDiv := false, col := 0, queue := [] }

/-- R445: the phase's work, on an invocation the 2:1 divider lets through. VRAM is read from storage, not through the
CPU's bus. -/
def Ppu.fetchPhase (threshold : Nat) (lcdc : Byte) (vram : Mem) (u : Ppu) : Ppu :=
  match u.phase with
  | .readTileId => { u with tileId := vram.read (tileIdAddr lcdc u.line u.col), phase := .readDataLow }
  | .readDataLow => { u with lo := vram.read (tileRowAddr lcdc u.tileId u.line).toNat, phase := .readDataHigh }
  | .readDataHigh => { u with hi := vram.read (tileRowAddr lcdc u.tileId u.line + 1).toNat, phase := .idle }
  | .idle =>
    if u.queue.length ≤ threshold then
      { u with queue := u.queue ++ tilePixels u.hi u.lo, col := u.col + 1, phase := .readTileId }
    else u

/-- R445: `fetcher_invoke()`; the divider is 0 and does work on every other invocation. -/
def Ppu.fetcherInvoke (threshold : Nat) (lcdc : Byte) (vram : Mem) (u : Ppu) : Ppu :=
  if u.fetchDiv then Ppu.fetchPhase threshold lcdc vram { u with fetchDiv := false } else { u with fetchDiv := true }

/-- R447: `pop_pixel()` when the queue is non-empty: the oldest pixel goes to `pixels_out`. -/
def Ppu.popPixel (u : Ppu) : Ppu :=
  match u.queue with
  | [] => u
  | p :: q => { u with queue := q, pixelsOut := u.pixelsOut ++ [(u.line, p)] }

/-- R441: what a dot does in TRANSFER before it is counted. -/
def Ppu.transferDot (p : Params) (lcdc : Byte) (vram : Mem) (u : Ppu) : Ppu :=
  match u.mode with
  | .transfer => (u.fetcherInvoke p.fetchQueueThreshold lcdc vram).popPixel
  | .oamSearch => u
  | .hblank => u
  | .vblank => u

/-- R441, R442: the line after this one. -/
def nextLine (p : Params) (line : Byte) : Byte := if (line + 1).toNat = p.linesPerFrame then 0 else line + 1

/-- R441, R442: this dot ends its scanline. -/
def Ppu.lineEnds (p : Params) (u : Ppu) : Bool := decide ((u.dot + 1).toNat = p.dotsPerLine)

/-- R441, R446: this dot enters the first non-visible line. -/
def Ppu.entersVBlank (p : Params) (u : Ppu) : Bool :=
  u.lineEnds p && decide ((nextLine p u.line).toNat = p.visibleLines)

/-- R441: the end of a scanline. -/
def Ppu.endLine (p : Params) (u : Ppu) : Ppu :=
  if (nextLine p u.line).toNat = p.visibleLines then
    { u with dot := 0, line := nextLine p u.line, mode := .vblank }
  else if (nextLine p u.line).toNat < p.visibleLines then
    { u with dot := 0, line := nextLine p u.line, mode := .oamSearch }.lineStart
  else { u with dot := 0, line := nextLine p u.line }

/-- R441, R443: the mode thresholds inside a visible line, in the order of their tests. -/
def dotMode (p : Params) (dot : Nat) (m : PpuMode) : PpuMode :=
  if dot = p.oamSearchDots + p.transferDots then .hblank
  else if dot = p.oamSearchDots then .transfer
  else m

/-- R441: the dot is counted. -/
def Ppu.countDot (p : Params) (u : Ppu) : Ppu :=
  if u.lineEnds p then u.endLine p
  else if u.line.toNat < p.visibleLines then
    { u with dot := u.dot + 1, mode := dotMode p (u.dot + 1).toNat u.mode }
  else { u with dot := u.dot + 1 }

/-- R441: `ppu_dot_step()`, but for IF. -/
def Ppu.dotStep (p : Params) (lcdc : Byte) (vram : Mem) (u : Ppu) : Ppu := (u.transferDot p lcdc vram).countDot p

/-- R441, R446: `ppu_dot_step()` on the state. -/
def ppuDotStep (s : State) : State :=
  { s with
    ppu := s.ppu.dotStep s.params s.lcdc s.ram
    iflag := if s.ppu.entersVBlank s.params then s.iflag ||| 0b00001 else s.iflag }

/-- `n` dots (R441). -/
def ppuRun : Nat → State → State
  | 0, s => s
  | n + 1, s => ppuRun n (ppuDotStep s)

/-- R440: `lcd_off_reset()`. -/
def Ppu.lcdOff (u : Ppu) : Ppu := { u with dot := 0, line := 0, mode := .oamSearch }.lineStart

/-- R440, R441: `ppu_tick(dots)`. -/
def ppuTick (dots : Nat) (s : State) : State :=
  if s.lcdc.getLsbD 7 then ppuRun dots s else { s with ppu := s.ppu.lcdOff }

end Sys2Proof.Machine
end

