-- ==== Sys2Proof/Machine/Timer.lean ====
section
/-! DEFINITION. The timing controller (`60_exceptions.md` R430-R437). -/

namespace Sys2Proof.Machine

/-- R432: the divider bit the select field chooses. -/
def tapBit (sel : Nat) : Nat :=
  match sel with
  | 0 => 9
  | 1 => 3
  | 2 => 5
  | _ => 7

/-- R431, R432: `TAC[2] and div_counter[sel(TAC[1:0])]`. -/
def Timer.tap (t : Timer) : Bool := t.tac.getLsbD 2 && t.divCounter.getLsbD (tapBit (t.tac.toNat % 4))

/-- R431: the divider counts every invocation. -/
def Timer.count (t : Timer) : Timer := { t with divCounter := t.divCounter + 1 }

/-- R431, R434: the overflow window ends at this invocation. -/
def Timer.windowEnds (t : Timer) : Bool := t.ovfPending && decide (t.ovfStep + 1 = 4)

/-- R431, R434: one invocation of the overflow window. -/
def Timer.window (t : Timer) : Timer :=
  if t.ovfPending then
    if t.ovfStep + 1 = 4 then
      { t with
        tima := if t.reloadArmed then t.tma else t.tima
        ovfPending := false
        ovfStep := 0
        reloadArmed := false
        irqArmed := false }
    else { t with ovfStep := t.ovfStep + 1 }
  else t

/-- R431: a falling edge with no overflow pending. -/
def Timer.falls (t : Timer) : Bool := t.lastTap && !t.tap && !t.ovfPending

/-- R431: the edge detector; an increment that wraps arms the overflow sequence. -/
def Timer.edge (t : Timer) : Timer :=
  if t.falls then
    if t.tima + 1 = 0 then
      { t with
        tima := 0
        ovfPending := true
        ovfStep := 0
        reloadArmed := true
        irqArmed := true
        lastTap := t.tap }
    else { t with tima := t.tima + 1, lastTap := t.tap }
  else { t with lastTap := t.tap }

/-- R431: `timer_invoke()`, but for IF. -/
def Timer.invoke (t : Timer) : Timer := t.count.window.edge

/-- R431, R436: this invocation sets IF bit 2. -/
def Timer.requests (t : Timer) : Bool := t.windowEnds && t.irqArmed

/-- R431: `timer_invoke()` on the state. -/
def timerInvoke (s : State) : State :=
  { s with
    timer := s.timer.invoke
    iflag := if s.timer.requests then s.iflag ||| 0b00100 else s.iflag }

/-- `n` invocations (R100). -/
def timerRun : Nat → State → State
  | 0, s => s
  | n + 1, s => timerRun n (timerInvoke s)

end Sys2Proof.Machine
end

