-- ==== Sys2Proof/Machine/Devices.lean ====
section
/-! DEFINITION. The devices catch up with the CPU (`30_encoding.md` R100, its last two lines). -/

namespace Sys2Proof.Machine

/-- R100: the timer's invocations, then the scanline controller's dots, for the cycles the CPU's work took. -/
def advanceDevices (s : State) : State :=
  ppuTick (s.stepCycles * Config.dotsPerCycle) (timerRun (s.stepCycles * s.params.timerInvocationsPerCycle) s)

end Sys2Proof.Machine
end

