-- ==== Sys2Proof/Machine/Flags.lean ====
section
/-! DEFINITION. Every flag computation and every arithmetic, logic, rotate and bit operation on values: the helpers of
`10_state.md` R28-R32, the operations of `45_alu.md`, `44_inc_dec.md`, `47_ext_rotate_shift.md`, `48_ext_bit.md` and
`49_accumulator_misc.md`. -/

namespace Sys2Proof.Machine

/-- R28: carry out of bit 3 of `a + b + c`. -/
def hcAdd (a b : Byte) (c : Bool) : Bool := decide ((a &&& 0x0F).toNat + (b &&& 0x0F).toNat + c.toNat > 15)

/-- R29: borrow into bit 3 of `a - b - c`. -/
def hcSub (a b : Byte) (c : Bool) : Bool := decide ((a &&& 0x0F).toNat < (b &&& 0x0F).toNat + c.toNat)

/-- R30: carry out of bit 7 of `a + b + c`. -/
def cyAdd (a b : Byte) (c : Bool) : Bool := decide (a.toNat + b.toNat + c.toNat > 255)

/-- R31: borrow of `a - b - c`. -/
def cySub (a b : Byte) (c : Bool) : Bool := decide (a.toNat < b.toNat + c.toNat)

/-- R32: carry out of bit 11. -/
def hcAdd16 (a b : Word) : Bool := decide ((a &&& 0x0FFF).toNat + (b &&& 0x0FFF).toNat > 0x0FFF)

/-- R32: carry out of bit 15. -/
def cyAdd16 (a b : Word) : Bool := decide (a.toNat + b.toNat > 0xFFFF)

/-- A carry bit as a u8. -/
def carryByte (c : Bool) : Byte := if c then 1 else 0

/-! ## 8-bit arithmetic and logic (`45_alu.md` R281-R288): the value A gets and the flags -/

/-- R281 (c = 0) and R282: A + v + c. -/
def addFlags (a v : Byte) (c : Bool) : Byte × Flags :=
  (a + v + carryByte c, ⟨decide (a + v + carryByte c = 0), false, hcAdd a v c, cyAdd a v c⟩)

/-- R283, R288 (c = 0) and R284: A - v - c. -/
def subFlags (a v : Byte) (c : Bool) : Byte × Flags :=
  (a - v - carryByte c, ⟨decide (a - v - carryByte c = 0), true, hcSub a v c, cySub a v c⟩)

/-- R285-R287: Z from the result, N and C 0, H given. -/
def logicFlags (r : Byte) (h : Bool) : Byte × Flags := (r, ⟨decide (r = 0), false, h, false⟩)

/-- R114, R281-R288: the value A gets and the flags; CP keeps A. -/
def alu (op : AluOp) (a v : Byte) (f : Flags) : Byte × Flags :=
  match op with
  | .add => addFlags a v false
  | .adc => addFlags a v f.c
  | .sub => subFlags a v false
  | .sbc => subFlags a v f.c
  | .and => logicFlags (a &&& v) true
  | .xor => logicFlags (a ^^^ v) false
  | .or => logicFlags (a ||| v) false
  | .cp => (a, (subFlags a v false).2)

/-! ## Increment and decrement (`44_inc_dec.md` R270-R273): C unchanged -/

/-- R270, R271: the flags of `old + 1`. -/
def incFlags (old : Byte) (f : Flags) : Flags := { f with z := decide (old + 1 = 0), n := false, h := hcAdd old 1 false }

/-- R272, R273: the flags of `old - 1`. -/
def decFlags (old : Byte) (f : Flags) : Flags := { f with z := decide (old - 1 = 0), n := true, h := hcSub old 1 false }

/-! ## 16-bit additions -/

/-- `45_alu.md` R290: the flags of HL + v; Z unchanged. -/
def addHLFlags (hl v : Word) (f : Flags) : Flags := { f with n := false, h := hcAdd16 hl v, c := cyAdd16 hl v }

/-- `45_alu.md` R291, `42_loads.md` R244: the flags of SP + e8, from the unsigned low-byte addition. -/
def spAddFlags (sp : Word) (n : Byte) : Flags := ⟨false, false, hcAdd (loByte sp) n false, cyAdd (loByte sp) n false⟩

/-! ## Rotates, shifts and swap (`47_ext_rotate_shift.md` R311-R318) -/

/-- `op(v) -> (r, c)` of R310, with the carry before. -/
def rot (op : RotOp) (v : Byte) (c : Bool) : Byte × Bool :=
  match op with
  | .rlc => ((v <<< 1) ||| carryByte (v.getLsbD 7), v.getLsbD 7)
  | .rrc => ((v >>> 1) ||| (carryByte (v.getLsbD 0) <<< 7), v.getLsbD 0)
  | .rl => ((v <<< 1) ||| carryByte c, v.getLsbD 7)
  | .rr => ((v >>> 1) ||| (carryByte c <<< 7), v.getLsbD 0)
  | .sla => (v <<< 1, v.getLsbD 7)
  | .sra => ((v >>> 1) ||| (v &&& 0x80), v.getLsbD 0)
  | .swap => ((v <<< 4) ||| (v >>> 4), false)
  | .srl => (v >>> 1, v.getLsbD 0)

/-- R310: `F.Z <- (r = 0); F.N <- 0; F.H <- 0; F.C <- c`. -/
def rotFlags (r : Byte) (c : Bool) : Flags := ⟨decide (r = 0), false, false, c⟩

/-! ## Bits (`48_ext_bit.md` R330-R332) -/

/-- R330: Z is the complement of the tested bit, N 0, H 1, C unchanged. -/
def bitFlags (b : Fin 8) (v : Byte) (f : Flags) : Flags := { f with z := !v.getLsbD b.val, n := false, h := true }

/-- R331: `v & ~(1 << b)`. -/
def resBit (b : Fin 8) (v : Byte) : Byte := v &&& ~~~(1#8 <<< b.val)

/-- R332: `v | (1 << b)`. -/
def setBit (b : Fin 8) (v : Byte) : Byte := v ||| (1#8 <<< b.val)

/-! ## Decimal adjust (`49_accumulator_misc.md` R344) -/

/-- R344: the 0x60 correction is due. -/
def daaHigh (a : Byte) (f : Flags) : Bool := f.c || (!f.n && decide (a.toNat > 0x99))

/-- R344: the 0x06 correction is due. -/
def daaLow (a : Byte) (f : Flags) : Bool := f.h || (!f.n && decide ((a &&& 0x0F).toNat > 0x09))

/-- R344: `corr`. -/
def daaCorr (a : Byte) (f : Flags) : Byte :=
  (if daaHigh a f then 0x60 else 0x00) ||| (if daaLow a f then 0x06 else 0x00)

/-- R344: the adjusted A. -/
def daaValue (a : Byte) (f : Flags) : Byte := if f.n then a - daaCorr a f else a + daaCorr a f

/-- R344: Z from the result, N unchanged, H 0, C set by the 0x60 correction of an add and else kept. -/
def daaFlags (a : Byte) (f : Flags) : Flags := ⟨decide (daaValue a f = 0), f.n, false, daaHigh a f⟩

end Sys2Proof.Machine
end

