-- ==== Sys2Proof/Machine/Operands.lean ====
section
/-! DEFINITION. The operand forms (`30_encoding.md` R106, R110-R113; `45_alu.md` R280): reading and writing an 8-bit
operand, the address of each memory form, the conditions, and the cycle counts that depend on the form. -/

namespace Sys2Proof.Machine

/-- R110: reading `R8[i]`; index 6 is `MemRead(HL, 1)`. -/
def readOperand (o : Operand8) (s : State) : Res (Byte × State) :=
  match o with
  | .reg r => .next (s.regs.get8 r, s)
  | .atHL => memRead s.regs.hl s

/-- R110: writing `R8[i]`; index 6 is `MemWrite(HL, 1, v)`. -/
def writeOperand (o : Operand8) (v : Byte) (s : State) : Res State :=
  match o with
  | .reg r => .next (s.set8 r v)
  | .atHL => memWrite s.regs.hl v s

/-- The cycles of an instruction with a register or an (HL) operand. -/
def cyclesBy (o : Operand8) (reg atHL : Nat) : Nat :=
  match o with
  | .reg _ => reg
  | .atHL => atHL

/-- R113: `cond(cc)`. -/
def condHolds (cc : Cond) (f : Flags) : Bool :=
  match cc with
  | .nz => !f.z
  | .z => f.z
  | .nc => !f.c
  | .c => f.c

/-- R106: the a8 and (C) operands, `0xFF00 + zext_16(n)`. -/
def highPage (n : Byte) : Word := 0xFF00 + zext16 n

/-- R106: the RST target `y * 8`. -/
def rstTarget (y : Fin 8) : Word := BitVec.ofNat 16 (8 * y.val)

/-- R116, z = 2: the address register of LD (rr),A and LD A,(rr). -/
def indirectAddr (k : IndirectA) (r : Regs) : Word :=
  match k with
  | .bc => r.bc
  | .de => r.de
  | .hli => r.hl
  | .hld => r.hl

/-- `42_loads.md` R237-R240: HL after the access. -/
def indirectStep (k : IndirectA) (s : State) : State :=
  match k with
  | .bc => s
  | .de => s
  | .hli => s.setHL (s.regs.hl + 1)
  | .hld => s.setHL (s.regs.hl - 1)

end Sys2Proof.Machine
end

