-- ==== Sys2Proof/Machine/ExtBit.lean ====
section
/-! DEFINITION. Extended bit test, reset and set (`48_ext_bit.md` R330-R332). -/

namespace Sys2Proof.Machine

/-- R330: BIT b,v; nothing is written but the flags. -/
def opBit (b : Fin 8) (o : Operand8) (s : State) : Res State :=
  andThen (readOperand o s) fun (v, s1) => .next ((s1.setF (bitFlags b v s1.regs.f)).took (cyclesBy o 2 3))

/-- R331: RES b,v; no flag. -/
def opRes (b : Fin 8) (o : Operand8) (s : State) : Res State :=
  andThen (readOperand o s) fun (v, s1) =>
  andThen (writeOperand o (resBit b v) s1) fun s2 => .next (s2.took (cyclesBy o 2 4))

/-- R332: SET b,v; no flag. -/
def opSet (b : Fin 8) (o : Operand8) (s : State) : Res State :=
  andThen (readOperand o s) fun (v, s1) =>
  andThen (writeOperand o (setBit b v) s1) fun s2 => .next (s2.took (cyclesBy o 2 4))

/-- R330: BIT 0,B (CB 40). -/
def execBit_0_b (s : State) : Res State := opBit 0 (.reg .b) s

/-- R330: BIT 0,C (CB 41). -/
def execBit_0_c (s : State) : Res State := opBit 0 (.reg .c) s

/-- R330: BIT 0,D (CB 42). -/
def execBit_0_d (s : State) : Res State := opBit 0 (.reg .d) s

/-- R330: BIT 0,E (CB 43). -/
def execBit_0_e (s : State) : Res State := opBit 0 (.reg .e) s

/-- R330: BIT 0,H (CB 44). -/
def execBit_0_h (s : State) : Res State := opBit 0 (.reg .h) s

/-- R330: BIT 0,L (CB 45). -/
def execBit_0_l (s : State) : Res State := opBit 0 (.reg .l) s

/-- R330: BIT 0,(HL) (CB 46). -/
def execBit_0_atHL (s : State) : Res State := opBit 0 .atHL s

/-- R330: BIT 0,A (CB 47). -/
def execBit_0_a (s : State) : Res State := opBit 0 (.reg .a) s

/-- R330: BIT 1,B (CB 48). -/
def execBit_1_b (s : State) : Res State := opBit 1 (.reg .b) s

/-- R330: BIT 1,C (CB 49). -/
def execBit_1_c (s : State) : Res State := opBit 1 (.reg .c) s

/-- R330: BIT 1,D (CB 4A). -/
def execBit_1_d (s : State) : Res State := opBit 1 (.reg .d) s

/-- R330: BIT 1,E (CB 4B). -/
def execBit_1_e (s : State) : Res State := opBit 1 (.reg .e) s

/-- R330: BIT 1,H (CB 4C). -/
def execBit_1_h (s : State) : Res State := opBit 1 (.reg .h) s

/-- R330: BIT 1,L (CB 4D). -/
def execBit_1_l (s : State) : Res State := opBit 1 (.reg .l) s

/-- R330: BIT 1,(HL) (CB 4E). -/
def execBit_1_atHL (s : State) : Res State := opBit 1 .atHL s

/-- R330: BIT 1,A (CB 4F). -/
def execBit_1_a (s : State) : Res State := opBit 1 (.reg .a) s

/-- R330: BIT 2,B (CB 50). -/
def execBit_2_b (s : State) : Res State := opBit 2 (.reg .b) s

/-- R330: BIT 2,C (CB 51). -/
def execBit_2_c (s : State) : Res State := opBit 2 (.reg .c) s

/-- R330: BIT 2,D (CB 52). -/
def execBit_2_d (s : State) : Res State := opBit 2 (.reg .d) s

/-- R330: BIT 2,E (CB 53). -/
def execBit_2_e (s : State) : Res State := opBit 2 (.reg .e) s

/-- R330: BIT 2,H (CB 54). -/
def execBit_2_h (s : State) : Res State := opBit 2 (.reg .h) s

/-- R330: BIT 2,L (CB 55). -/
def execBit_2_l (s : State) : Res State := opBit 2 (.reg .l) s

/-- R330: BIT 2,(HL) (CB 56). -/
def execBit_2_atHL (s : State) : Res State := opBit 2 .atHL s

/-- R330: BIT 2,A (CB 57). -/
def execBit_2_a (s : State) : Res State := opBit 2 (.reg .a) s

/-- R330: BIT 3,B (CB 58). -/
def execBit_3_b (s : State) : Res State := opBit 3 (.reg .b) s

/-- R330: BIT 3,C (CB 59). -/
def execBit_3_c (s : State) : Res State := opBit 3 (.reg .c) s

/-- R330: BIT 3,D (CB 5A). -/
def execBit_3_d (s : State) : Res State := opBit 3 (.reg .d) s

/-- R330: BIT 3,E (CB 5B). -/
def execBit_3_e (s : State) : Res State := opBit 3 (.reg .e) s

/-- R330: BIT 3,H (CB 5C). -/
def execBit_3_h (s : State) : Res State := opBit 3 (.reg .h) s

/-- R330: BIT 3,L (CB 5D). -/
def execBit_3_l (s : State) : Res State := opBit 3 (.reg .l) s

/-- R330: BIT 3,(HL) (CB 5E). -/
def execBit_3_atHL (s : State) : Res State := opBit 3 .atHL s

/-- R330: BIT 3,A (CB 5F). -/
def execBit_3_a (s : State) : Res State := opBit 3 (.reg .a) s

/-- R330: BIT 4,B (CB 60). -/
def execBit_4_b (s : State) : Res State := opBit 4 (.reg .b) s

/-- R330: BIT 4,C (CB 61). -/
def execBit_4_c (s : State) : Res State := opBit 4 (.reg .c) s

/-- R330: BIT 4,D (CB 62). -/
def execBit_4_d (s : State) : Res State := opBit 4 (.reg .d) s

/-- R330: BIT 4,E (CB 63). -/
def execBit_4_e (s : State) : Res State := opBit 4 (.reg .e) s

/-- R330: BIT 4,H (CB 64). -/
def execBit_4_h (s : State) : Res State := opBit 4 (.reg .h) s

/-- R330: BIT 4,L (CB 65). -/
def execBit_4_l (s : State) : Res State := opBit 4 (.reg .l) s

/-- R330: BIT 4,(HL) (CB 66). -/
def execBit_4_atHL (s : State) : Res State := opBit 4 .atHL s

/-- R330: BIT 4,A (CB 67). -/
def execBit_4_a (s : State) : Res State := opBit 4 (.reg .a) s

/-- R330: BIT 5,B (CB 68). -/
def execBit_5_b (s : State) : Res State := opBit 5 (.reg .b) s

/-- R330: BIT 5,C (CB 69). -/
def execBit_5_c (s : State) : Res State := opBit 5 (.reg .c) s

/-- R330: BIT 5,D (CB 6A). -/
def execBit_5_d (s : State) : Res State := opBit 5 (.reg .d) s

/-- R330: BIT 5,E (CB 6B). -/
def execBit_5_e (s : State) : Res State := opBit 5 (.reg .e) s

/-- R330: BIT 5,H (CB 6C). -/
def execBit_5_h (s : State) : Res State := opBit 5 (.reg .h) s

/-- R330: BIT 5,L (CB 6D). -/
def execBit_5_l (s : State) : Res State := opBit 5 (.reg .l) s

/-- R330: BIT 5,(HL) (CB 6E). -/
def execBit_5_atHL (s : State) : Res State := opBit 5 .atHL s

/-- R330: BIT 5,A (CB 6F). -/
def execBit_5_a (s : State) : Res State := opBit 5 (.reg .a) s

/-- R330: BIT 6,B (CB 70). -/
def execBit_6_b (s : State) : Res State := opBit 6 (.reg .b) s

/-- R330: BIT 6,C (CB 71). -/
def execBit_6_c (s : State) : Res State := opBit 6 (.reg .c) s

/-- R330: BIT 6,D (CB 72). -/
def execBit_6_d (s : State) : Res State := opBit 6 (.reg .d) s

/-- R330: BIT 6,E (CB 73). -/
def execBit_6_e (s : State) : Res State := opBit 6 (.reg .e) s

/-- R330: BIT 6,H (CB 74). -/
def execBit_6_h (s : State) : Res State := opBit 6 (.reg .h) s

/-- R330: BIT 6,L (CB 75). -/
def execBit_6_l (s : State) : Res State := opBit 6 (.reg .l) s

/-- R330: BIT 6,(HL) (CB 76). -/
def execBit_6_atHL (s : State) : Res State := opBit 6 .atHL s

/-- R330: BIT 6,A (CB 77). -/
def execBit_6_a (s : State) : Res State := opBit 6 (.reg .a) s

/-- R330: BIT 7,B (CB 78). -/
def execBit_7_b (s : State) : Res State := opBit 7 (.reg .b) s

/-- R330: BIT 7,C (CB 79). -/
def execBit_7_c (s : State) : Res State := opBit 7 (.reg .c) s

/-- R330: BIT 7,D (CB 7A). -/
def execBit_7_d (s : State) : Res State := opBit 7 (.reg .d) s

/-- R330: BIT 7,E (CB 7B). -/
def execBit_7_e (s : State) : Res State := opBit 7 (.reg .e) s

/-- R330: BIT 7,H (CB 7C). -/
def execBit_7_h (s : State) : Res State := opBit 7 (.reg .h) s

/-- R330: BIT 7,L (CB 7D). -/
def execBit_7_l (s : State) : Res State := opBit 7 (.reg .l) s

/-- R330: BIT 7,(HL) (CB 7E). -/
def execBit_7_atHL (s : State) : Res State := opBit 7 .atHL s

/-- R330: BIT 7,A (CB 7F). -/
def execBit_7_a (s : State) : Res State := opBit 7 (.reg .a) s

/-- R331: RES 0,B (CB 80). -/
def execRes_0_b (s : State) : Res State := opRes 0 (.reg .b) s

/-- R331: RES 0,C (CB 81). -/
def execRes_0_c (s : State) : Res State := opRes 0 (.reg .c) s

/-- R331: RES 0,D (CB 82). -/
def execRes_0_d (s : State) : Res State := opRes 0 (.reg .d) s

/-- R331: RES 0,E (CB 83). -/
def execRes_0_e (s : State) : Res State := opRes 0 (.reg .e) s

/-- R331: RES 0,H (CB 84). -/
def execRes_0_h (s : State) : Res State := opRes 0 (.reg .h) s

/-- R331: RES 0,L (CB 85). -/
def execRes_0_l (s : State) : Res State := opRes 0 (.reg .l) s

/-- R331: RES 0,(HL) (CB 86). -/
def execRes_0_atHL (s : State) : Res State := opRes 0 .atHL s

/-- R331: RES 0,A (CB 87). -/
def execRes_0_a (s : State) : Res State := opRes 0 (.reg .a) s

/-- R331: RES 1,B (CB 88). -/
def execRes_1_b (s : State) : Res State := opRes 1 (.reg .b) s

/-- R331: RES 1,C (CB 89). -/
def execRes_1_c (s : State) : Res State := opRes 1 (.reg .c) s

/-- R331: RES 1,D (CB 8A). -/
def execRes_1_d (s : State) : Res State := opRes 1 (.reg .d) s

/-- R331: RES 1,E (CB 8B). -/
def execRes_1_e (s : State) : Res State := opRes 1 (.reg .e) s

/-- R331: RES 1,H (CB 8C). -/
def execRes_1_h (s : State) : Res State := opRes 1 (.reg .h) s

/-- R331: RES 1,L (CB 8D). -/
def execRes_1_l (s : State) : Res State := opRes 1 (.reg .l) s

/-- R331: RES 1,(HL) (CB 8E). -/
def execRes_1_atHL (s : State) : Res State := opRes 1 .atHL s

/-- R331: RES 1,A (CB 8F). -/
def execRes_1_a (s : State) : Res State := opRes 1 (.reg .a) s

/-- R331: RES 2,B (CB 90). -/
def execRes_2_b (s : State) : Res State := opRes 2 (.reg .b) s

/-- R331: RES 2,C (CB 91). -/
def execRes_2_c (s : State) : Res State := opRes 2 (.reg .c) s

/-- R331: RES 2,D (CB 92). -/
def execRes_2_d (s : State) : Res State := opRes 2 (.reg .d) s

/-- R331: RES 2,E (CB 93). -/
def execRes_2_e (s : State) : Res State := opRes 2 (.reg .e) s

/-- R331: RES 2,H (CB 94). -/
def execRes_2_h (s : State) : Res State := opRes 2 (.reg .h) s

/-- R331: RES 2,L (CB 95). -/
def execRes_2_l (s : State) : Res State := opRes 2 (.reg .l) s

/-- R331: RES 2,(HL) (CB 96). -/
def execRes_2_atHL (s : State) : Res State := opRes 2 .atHL s

/-- R331: RES 2,A (CB 97). -/
def execRes_2_a (s : State) : Res State := opRes 2 (.reg .a) s

/-- R331: RES 3,B (CB 98). -/
def execRes_3_b (s : State) : Res State := opRes 3 (.reg .b) s

/-- R331: RES 3,C (CB 99). -/
def execRes_3_c (s : State) : Res State := opRes 3 (.reg .c) s

/-- R331: RES 3,D (CB 9A). -/
def execRes_3_d (s : State) : Res State := opRes 3 (.reg .d) s

/-- R331: RES 3,E (CB 9B). -/
def execRes_3_e (s : State) : Res State := opRes 3 (.reg .e) s

/-- R331: RES 3,H (CB 9C). -/
def execRes_3_h (s : State) : Res State := opRes 3 (.reg .h) s

/-- R331: RES 3,L (CB 9D). -/
def execRes_3_l (s : State) : Res State := opRes 3 (.reg .l) s

/-- R331: RES 3,(HL) (CB 9E). -/
def execRes_3_atHL (s : State) : Res State := opRes 3 .atHL s

/-- R331: RES 3,A (CB 9F). -/
def execRes_3_a (s : State) : Res State := opRes 3 (.reg .a) s

/-- R331: RES 4,B (CB A0). -/
def execRes_4_b (s : State) : Res State := opRes 4 (.reg .b) s

/-- R331: RES 4,C (CB A1). -/
def execRes_4_c (s : State) : Res State := opRes 4 (.reg .c) s

/-- R331: RES 4,D (CB A2). -/
def execRes_4_d (s : State) : Res State := opRes 4 (.reg .d) s

/-- R331: RES 4,E (CB A3). -/
def execRes_4_e (s : State) : Res State := opRes 4 (.reg .e) s

/-- R331: RES 4,H (CB A4). -/
def execRes_4_h (s : State) : Res State := opRes 4 (.reg .h) s

/-- R331: RES 4,L (CB A5). -/
def execRes_4_l (s : State) : Res State := opRes 4 (.reg .l) s

/-- R331: RES 4,(HL) (CB A6). -/
def execRes_4_atHL (s : State) : Res State := opRes 4 .atHL s

/-- R331: RES 4,A (CB A7). -/
def execRes_4_a (s : State) : Res State := opRes 4 (.reg .a) s

/-- R331: RES 5,B (CB A8). -/
def execRes_5_b (s : State) : Res State := opRes 5 (.reg .b) s

/-- R331: RES 5,C (CB A9). -/
def execRes_5_c (s : State) : Res State := opRes 5 (.reg .c) s

/-- R331: RES 5,D (CB AA). -/
def execRes_5_d (s : State) : Res State := opRes 5 (.reg .d) s

/-- R331: RES 5,E (CB AB). -/
def execRes_5_e (s : State) : Res State := opRes 5 (.reg .e) s

/-- R331: RES 5,H (CB AC). -/
def execRes_5_h (s : State) : Res State := opRes 5 (.reg .h) s

/-- R331: RES 5,L (CB AD). -/
def execRes_5_l (s : State) : Res State := opRes 5 (.reg .l) s

/-- R331: RES 5,(HL) (CB AE). -/
def execRes_5_atHL (s : State) : Res State := opRes 5 .atHL s

/-- R331: RES 5,A (CB AF). -/
def execRes_5_a (s : State) : Res State := opRes 5 (.reg .a) s

/-- R331: RES 6,B (CB B0). -/
def execRes_6_b (s : State) : Res State := opRes 6 (.reg .b) s

/-- R331: RES 6,C (CB B1). -/
def execRes_6_c (s : State) : Res State := opRes 6 (.reg .c) s

/-- R331: RES 6,D (CB B2). -/
def execRes_6_d (s : State) : Res State := opRes 6 (.reg .d) s

/-- R331: RES 6,E (CB B3). -/
def execRes_6_e (s : State) : Res State := opRes 6 (.reg .e) s

/-- R331: RES 6,H (CB B4). -/
def execRes_6_h (s : State) : Res State := opRes 6 (.reg .h) s

/-- R331: RES 6,L (CB B5). -/
def execRes_6_l (s : State) : Res State := opRes 6 (.reg .l) s

/-- R331: RES 6,(HL) (CB B6). -/
def execRes_6_atHL (s : State) : Res State := opRes 6 .atHL s

/-- R331: RES 6,A (CB B7). -/
def execRes_6_a (s : State) : Res State := opRes 6 (.reg .a) s

/-- R331: RES 7,B (CB B8). -/
def execRes_7_b (s : State) : Res State := opRes 7 (.reg .b) s

/-- R331: RES 7,C (CB B9). -/
def execRes_7_c (s : State) : Res State := opRes 7 (.reg .c) s

/-- R331: RES 7,D (CB BA). -/
def execRes_7_d (s : State) : Res State := opRes 7 (.reg .d) s

/-- R331: RES 7,E (CB BB). -/
def execRes_7_e (s : State) : Res State := opRes 7 (.reg .e) s

/-- R331: RES 7,H (CB BC). -/
def execRes_7_h (s : State) : Res State := opRes 7 (.reg .h) s

/-- R331: RES 7,L (CB BD). -/
def execRes_7_l (s : State) : Res State := opRes 7 (.reg .l) s

/-- R331: RES 7,(HL) (CB BE). -/
def execRes_7_atHL (s : State) : Res State := opRes 7 .atHL s

/-- R331: RES 7,A (CB BF). -/
def execRes_7_a (s : State) : Res State := opRes 7 (.reg .a) s

/-- R332: SET 0,B (CB C0). -/
def execSet_0_b (s : State) : Res State := opSet 0 (.reg .b) s

/-- R332: SET 0,C (CB C1). -/
def execSet_0_c (s : State) : Res State := opSet 0 (.reg .c) s

/-- R332: SET 0,D (CB C2). -/
def execSet_0_d (s : State) : Res State := opSet 0 (.reg .d) s

/-- R332: SET 0,E (CB C3). -/
def execSet_0_e (s : State) : Res State := opSet 0 (.reg .e) s

/-- R332: SET 0,H (CB C4). -/
def execSet_0_h (s : State) : Res State := opSet 0 (.reg .h) s

/-- R332: SET 0,L (CB C5). -/
def execSet_0_l (s : State) : Res State := opSet 0 (.reg .l) s

/-- R332: SET 0,(HL) (CB C6). -/
def execSet_0_atHL (s : State) : Res State := opSet 0 .atHL s

/-- R332: SET 0,A (CB C7). -/
def execSet_0_a (s : State) : Res State := opSet 0 (.reg .a) s

/-- R332: SET 1,B (CB C8). -/
def execSet_1_b (s : State) : Res State := opSet 1 (.reg .b) s

/-- R332: SET 1,C (CB C9). -/
def execSet_1_c (s : State) : Res State := opSet 1 (.reg .c) s

/-- R332: SET 1,D (CB CA). -/
def execSet_1_d (s : State) : Res State := opSet 1 (.reg .d) s

/-- R332: SET 1,E (CB CB). -/
def execSet_1_e (s : State) : Res State := opSet 1 (.reg .e) s

/-- R332: SET 1,H (CB CC). -/
def execSet_1_h (s : State) : Res State := opSet 1 (.reg .h) s

/-- R332: SET 1,L (CB CD). -/
def execSet_1_l (s : State) : Res State := opSet 1 (.reg .l) s

/-- R332: SET 1,(HL) (CB CE). -/
def execSet_1_atHL (s : State) : Res State := opSet 1 .atHL s

/-- R332: SET 1,A (CB CF). -/
def execSet_1_a (s : State) : Res State := opSet 1 (.reg .a) s

/-- R332: SET 2,B (CB D0). -/
def execSet_2_b (s : State) : Res State := opSet 2 (.reg .b) s

/-- R332: SET 2,C (CB D1). -/
def execSet_2_c (s : State) : Res State := opSet 2 (.reg .c) s

/-- R332: SET 2,D (CB D2). -/
def execSet_2_d (s : State) : Res State := opSet 2 (.reg .d) s

/-- R332: SET 2,E (CB D3). -/
def execSet_2_e (s : State) : Res State := opSet 2 (.reg .e) s

/-- R332: SET 2,H (CB D4). -/
def execSet_2_h (s : State) : Res State := opSet 2 (.reg .h) s

/-- R332: SET 2,L (CB D5). -/
def execSet_2_l (s : State) : Res State := opSet 2 (.reg .l) s

/-- R332: SET 2,(HL) (CB D6). -/
def execSet_2_atHL (s : State) : Res State := opSet 2 .atHL s

/-- R332: SET 2,A (CB D7). -/
def execSet_2_a (s : State) : Res State := opSet 2 (.reg .a) s

/-- R332: SET 3,B (CB D8). -/
def execSet_3_b (s : State) : Res State := opSet 3 (.reg .b) s

/-- R332: SET 3,C (CB D9). -/
def execSet_3_c (s : State) : Res State := opSet 3 (.reg .c) s

/-- R332: SET 3,D (CB DA). -/
def execSet_3_d (s : State) : Res State := opSet 3 (.reg .d) s

/-- R332: SET 3,E (CB DB). -/
def execSet_3_e (s : State) : Res State := opSet 3 (.reg .e) s

/-- R332: SET 3,H (CB DC). -/
def execSet_3_h (s : State) : Res State := opSet 3 (.reg .h) s

/-- R332: SET 3,L (CB DD). -/
def execSet_3_l (s : State) : Res State := opSet 3 (.reg .l) s

/-- R332: SET 3,(HL) (CB DE). -/
def execSet_3_atHL (s : State) : Res State := opSet 3 .atHL s

/-- R332: SET 3,A (CB DF). -/
def execSet_3_a (s : State) : Res State := opSet 3 (.reg .a) s

/-- R332: SET 4,B (CB E0). -/
def execSet_4_b (s : State) : Res State := opSet 4 (.reg .b) s

/-- R332: SET 4,C (CB E1). -/
def execSet_4_c (s : State) : Res State := opSet 4 (.reg .c) s

/-- R332: SET 4,D (CB E2). -/
def execSet_4_d (s : State) : Res State := opSet 4 (.reg .d) s

/-- R332: SET 4,E (CB E3). -/
def execSet_4_e (s : State) : Res State := opSet 4 (.reg .e) s

/-- R332: SET 4,H (CB E4). -/
def execSet_4_h (s : State) : Res State := opSet 4 (.reg .h) s

/-- R332: SET 4,L (CB E5). -/
def execSet_4_l (s : State) : Res State := opSet 4 (.reg .l) s

/-- R332: SET 4,(HL) (CB E6). -/
def execSet_4_atHL (s : State) : Res State := opSet 4 .atHL s

/-- R332: SET 4,A (CB E7). -/
def execSet_4_a (s : State) : Res State := opSet 4 (.reg .a) s

/-- R332: SET 5,B (CB E8). -/
def execSet_5_b (s : State) : Res State := opSet 5 (.reg .b) s

/-- R332: SET 5,C (CB E9). -/
def execSet_5_c (s : State) : Res State := opSet 5 (.reg .c) s

/-- R332: SET 5,D (CB EA). -/
def execSet_5_d (s : State) : Res State := opSet 5 (.reg .d) s

/-- R332: SET 5,E (CB EB). -/
def execSet_5_e (s : State) : Res State := opSet 5 (.reg .e) s

/-- R332: SET 5,H (CB EC). -/
def execSet_5_h (s : State) : Res State := opSet 5 (.reg .h) s

/-- R332: SET 5,L (CB ED). -/
def execSet_5_l (s : State) : Res State := opSet 5 (.reg .l) s

/-- R332: SET 5,(HL) (CB EE). -/
def execSet_5_atHL (s : State) : Res State := opSet 5 .atHL s

/-- R332: SET 5,A (CB EF). -/
def execSet_5_a (s : State) : Res State := opSet 5 (.reg .a) s

/-- R332: SET 6,B (CB F0). -/
def execSet_6_b (s : State) : Res State := opSet 6 (.reg .b) s

/-- R332: SET 6,C (CB F1). -/
def execSet_6_c (s : State) : Res State := opSet 6 (.reg .c) s

/-- R332: SET 6,D (CB F2). -/
def execSet_6_d (s : State) : Res State := opSet 6 (.reg .d) s

/-- R332: SET 6,E (CB F3). -/
def execSet_6_e (s : State) : Res State := opSet 6 (.reg .e) s

/-- R332: SET 6,H (CB F4). -/
def execSet_6_h (s : State) : Res State := opSet 6 (.reg .h) s

/-- R332: SET 6,L (CB F5). -/
def execSet_6_l (s : State) : Res State := opSet 6 (.reg .l) s

/-- R332: SET 6,(HL) (CB F6). -/
def execSet_6_atHL (s : State) : Res State := opSet 6 .atHL s

/-- R332: SET 6,A (CB F7). -/
def execSet_6_a (s : State) : Res State := opSet 6 (.reg .a) s

/-- R332: SET 7,B (CB F8). -/
def execSet_7_b (s : State) : Res State := opSet 7 (.reg .b) s

/-- R332: SET 7,C (CB F9). -/
def execSet_7_c (s : State) : Res State := opSet 7 (.reg .c) s

/-- R332: SET 7,D (CB FA). -/
def execSet_7_d (s : State) : Res State := opSet 7 (.reg .d) s

/-- R332: SET 7,E (CB FB). -/
def execSet_7_e (s : State) : Res State := opSet 7 (.reg .e) s

/-- R332: SET 7,H (CB FC). -/
def execSet_7_h (s : State) : Res State := opSet 7 (.reg .h) s

/-- R332: SET 7,L (CB FD). -/
def execSet_7_l (s : State) : Res State := opSet 7 (.reg .l) s

/-- R332: SET 7,(HL) (CB FE). -/
def execSet_7_atHL (s : State) : Res State := opSet 7 .atHL s

/-- R332: SET 7,A (CB FF). -/
def execSet_7_a (s : State) : Res State := opSet 7 (.reg .a) s

end Sys2Proof.Machine
end

