-- ==== Sys2Proof/Machine/ExtRotateShift.lean ====
section
/-! DEFINITION. Extended rotate, shift and swap (`47_ext_rotate_shift.md` R310-R318). -/

namespace Sys2Proof.Machine

/-- R310: the operand is read, rotated, written back; the flags use the computed result. -/
def opRot (op : RotOp) (o : Operand8) (s : State) : Res State :=
  andThen (readOperand o s) fun (v, s1) =>
  andThen (writeOperand o (rot op v s1.regs.f.c).1 s1) fun s2 =>
  .next ((s2.setF (rotFlags (rot op v s1.regs.f.c).1 (rot op v s1.regs.f.c).2)).took (cyclesBy o 2 4))

/-- R311: RLC B (CB 00). -/
def execRlc_b (s : State) : Res State := opRot .rlc (.reg .b) s

/-- R311: RLC C (CB 01). -/
def execRlc_c (s : State) : Res State := opRot .rlc (.reg .c) s

/-- R311: RLC D (CB 02). -/
def execRlc_d (s : State) : Res State := opRot .rlc (.reg .d) s

/-- R311: RLC E (CB 03). -/
def execRlc_e (s : State) : Res State := opRot .rlc (.reg .e) s

/-- R311: RLC H (CB 04). -/
def execRlc_h (s : State) : Res State := opRot .rlc (.reg .h) s

/-- R311: RLC L (CB 05). -/
def execRlc_l (s : State) : Res State := opRot .rlc (.reg .l) s

/-- R311: RLC (HL) (CB 06). -/
def execRlc_atHL (s : State) : Res State := opRot .rlc .atHL s

/-- R311: RLC A (CB 07). -/
def execRlc_a (s : State) : Res State := opRot .rlc (.reg .a) s

/-- R312: RRC B (CB 08). -/
def execRrc_b (s : State) : Res State := opRot .rrc (.reg .b) s

/-- R312: RRC C (CB 09). -/
def execRrc_c (s : State) : Res State := opRot .rrc (.reg .c) s

/-- R312: RRC D (CB 0A). -/
def execRrc_d (s : State) : Res State := opRot .rrc (.reg .d) s

/-- R312: RRC E (CB 0B). -/
def execRrc_e (s : State) : Res State := opRot .rrc (.reg .e) s

/-- R312: RRC H (CB 0C). -/
def execRrc_h (s : State) : Res State := opRot .rrc (.reg .h) s

/-- R312: RRC L (CB 0D). -/
def execRrc_l (s : State) : Res State := opRot .rrc (.reg .l) s

/-- R312: RRC (HL) (CB 0E). -/
def execRrc_atHL (s : State) : Res State := opRot .rrc .atHL s

/-- R312: RRC A (CB 0F). -/
def execRrc_a (s : State) : Res State := opRot .rrc (.reg .a) s

/-- R313: RL B (CB 10). -/
def execRl_b (s : State) : Res State := opRot .rl (.reg .b) s

/-- R313: RL C (CB 11). -/
def execRl_c (s : State) : Res State := opRot .rl (.reg .c) s

/-- R313: RL D (CB 12). -/
def execRl_d (s : State) : Res State := opRot .rl (.reg .d) s

/-- R313: RL E (CB 13). -/
def execRl_e (s : State) : Res State := opRot .rl (.reg .e) s

/-- R313: RL H (CB 14). -/
def execRl_h (s : State) : Res State := opRot .rl (.reg .h) s

/-- R313: RL L (CB 15). -/
def execRl_l (s : State) : Res State := opRot .rl (.reg .l) s

/-- R313: RL (HL) (CB 16). -/
def execRl_atHL (s : State) : Res State := opRot .rl .atHL s

/-- R313: RL A (CB 17). -/
def execRl_a (s : State) : Res State := opRot .rl (.reg .a) s

/-- R314: RR B (CB 18). -/
def execRr_b (s : State) : Res State := opRot .rr (.reg .b) s

/-- R314: RR C (CB 19). -/
def execRr_c (s : State) : Res State := opRot .rr (.reg .c) s

/-- R314: RR D (CB 1A). -/
def execRr_d (s : State) : Res State := opRot .rr (.reg .d) s

/-- R314: RR E (CB 1B). -/
def execRr_e (s : State) : Res State := opRot .rr (.reg .e) s

/-- R314: RR H (CB 1C). -/
def execRr_h (s : State) : Res State := opRot .rr (.reg .h) s

/-- R314: RR L (CB 1D). -/
def execRr_l (s : State) : Res State := opRot .rr (.reg .l) s

/-- R314: RR (HL) (CB 1E). -/
def execRr_atHL (s : State) : Res State := opRot .rr .atHL s

/-- R314: RR A (CB 1F). -/
def execRr_a (s : State) : Res State := opRot .rr (.reg .a) s

/-- R315: SLA B (CB 20). -/
def execSla_b (s : State) : Res State := opRot .sla (.reg .b) s

/-- R315: SLA C (CB 21). -/
def execSla_c (s : State) : Res State := opRot .sla (.reg .c) s

/-- R315: SLA D (CB 22). -/
def execSla_d (s : State) : Res State := opRot .sla (.reg .d) s

/-- R315: SLA E (CB 23). -/
def execSla_e (s : State) : Res State := opRot .sla (.reg .e) s

/-- R315: SLA H (CB 24). -/
def execSla_h (s : State) : Res State := opRot .sla (.reg .h) s

/-- R315: SLA L (CB 25). -/
def execSla_l (s : State) : Res State := opRot .sla (.reg .l) s

/-- R315: SLA (HL) (CB 26). -/
def execSla_atHL (s : State) : Res State := opRot .sla .atHL s

/-- R315: SLA A (CB 27). -/
def execSla_a (s : State) : Res State := opRot .sla (.reg .a) s

/-- R316: SRA B (CB 28). -/
def execSra_b (s : State) : Res State := opRot .sra (.reg .b) s

/-- R316: SRA C (CB 29). -/
def execSra_c (s : State) : Res State := opRot .sra (.reg .c) s

/-- R316: SRA D (CB 2A). -/
def execSra_d (s : State) : Res State := opRot .sra (.reg .d) s

/-- R316: SRA E (CB 2B). -/
def execSra_e (s : State) : Res State := opRot .sra (.reg .e) s

/-- R316: SRA H (CB 2C). -/
def execSra_h (s : State) : Res State := opRot .sra (.reg .h) s

/-- R316: SRA L (CB 2D). -/
def execSra_l (s : State) : Res State := opRot .sra (.reg .l) s

/-- R316: SRA (HL) (CB 2E). -/
def execSra_atHL (s : State) : Res State := opRot .sra .atHL s

/-- R316: SRA A (CB 2F). -/
def execSra_a (s : State) : Res State := opRot .sra (.reg .a) s

/-- R317: SWAP B (CB 30). -/
def execSwap_b (s : State) : Res State := opRot .swap (.reg .b) s

/-- R317: SWAP C (CB 31). -/
def execSwap_c (s : State) : Res State := opRot .swap (.reg .c) s

/-- R317: SWAP D (CB 32). -/
def execSwap_d (s : State) : Res State := opRot .swap (.reg .d) s

/-- R317: SWAP E (CB 33). -/
def execSwap_e (s : State) : Res State := opRot .swap (.reg .e) s

/-- R317: SWAP H (CB 34). -/
def execSwap_h (s : State) : Res State := opRot .swap (.reg .h) s

/-- R317: SWAP L (CB 35). -/
def execSwap_l (s : State) : Res State := opRot .swap (.reg .l) s

/-- R317: SWAP (HL) (CB 36). -/
def execSwap_atHL (s : State) : Res State := opRot .swap .atHL s

/-- R317: SWAP A (CB 37). -/
def execSwap_a (s : State) : Res State := opRot .swap (.reg .a) s

/-- R318: SRL B (CB 38). -/
def execSrl_b (s : State) : Res State := opRot .srl (.reg .b) s

/-- R318: SRL C (CB 39). -/
def execSrl_c (s : State) : Res State := opRot .srl (.reg .c) s

/-- R318: SRL D (CB 3A). -/
def execSrl_d (s : State) : Res State := opRot .srl (.reg .d) s

/-- R318: SRL E (CB 3B). -/
def execSrl_e (s : State) : Res State := opRot .srl (.reg .e) s

/-- R318: SRL H (CB 3C). -/
def execSrl_h (s : State) : Res State := opRot .srl (.reg .h) s

/-- R318: SRL L (CB 3D). -/
def execSrl_l (s : State) : Res State := opRot .srl (.reg .l) s

/-- R318: SRL (HL) (CB 3E). -/
def execSrl_atHL (s : State) : Res State := opRot .srl .atHL s

/-- R318: SRL A (CB 3F). -/
def execSrl_a (s : State) : Res State := opRot .srl (.reg .a) s

end Sys2Proof.Machine
end

