-- ==== Sys2Proof/Machine/Fetch.lean ====
section
/-! DEFINITION. The fetch of one instruction (`30_encoding.md` R101, R102 steps 1 to 4): every byte is read with
`MemRead` at the moment of fetch. -/

namespace Sys2Proof.Machine

/-- R101: `fetch8()`. -/
def fetch8 (s : State) : Res (Byte × State) :=
  andThen (memRead s.pc s) fun (b, s1) => .next (b, s1.setPC (s1.pc + 1))

/-- R101: PC after the opcode byte: not advanced if the HALT bug is pending, which it ends. -/
def afterOpcode (s : State) : State := if s.haltBug then { s with haltBug := false } else s.setPC (s.pc + 1)

/-- R101: `fetch_opcode()`. -/
def fetchOpcode (s : State) : Res (Byte × State) :=
  andThen (memRead s.pc s) fun (b, s1) => .next (b, afterOpcode s1)

/-- R102: (ext, op) is in `REFUSED_OPCODES`. -/
def State.refuses (s : State) (ext : Bool) (op : Byte) : Bool := s.params.refusedOpcodes.contains (ext, op)

/-- R102 step 4 for a base opcode: the operand bytes, then the instruction. -/
def fetchOperands (op : Byte) (s : State) : Res (Instr × State) :=
  match operandCount op with
  | 0 => .next (decodeBase op 0 0, s)
  | 1 => andThen (fetch8 s) fun (n, s1) => .next (decodeBase op n 0, s1)
  | _ =>
    andThen (fetch8 s) fun (lo, s1) =>
    andThen (fetch8 s1) fun (hi, s2) => .next (decodeBase op lo hi, s2)

/-- R102 step 2 and 3 after the prefix: the extended opcode, refused or decoded. -/
def fetchExtended (s : State) : Res (Instr × State) :=
  andThen (fetch8 s) fun (op, s1) =>
  if s1.refuses true op then raise (.refusedOpcode true op s1.opAddr) s1 else .next (decodeExt op, s1)

/-- R102 steps 1 to 4. An absent byte is answered as its row of the table, whose meaning raises IllegalOpcode; that
check comes before the refusal (R403). -/
def fetchInstr (s : State) : Res (Instr × State) :=
  andThen (fetchOpcode { s with opAddr := s.pc }) fun (op, s1) =>
  if op = prefixByte then fetchExtended s1
  else if isAbsent op then .next (decodeBase op 0 0, s1)
  else if s1.refuses false op then raise (.refusedOpcode false op s1.opAddr) s1
  else fetchOperands op s1

end Sys2Proof.Machine
end

