-- ==== Sys2Proof/Machine/Absent.lean ====
section
/-! DEFINITION. The rows that are no instruction by themselves: the eleven absent bytes (`30_encoding.md` R121, `60_exceptions.md`
R402) and the prefix byte (R102, R123). -/

namespace Sys2Proof.Machine

/-- R102, R121, R402: IllegalOpcode with (0, op, pc0). -/
def opIllegal (op : Byte) (s : State) : Res State := raise (.illegalOpcode false op s.opAddr) s

/-- R120: the extended instruction of an opcode byte, by its fields. -/
def opExtended (op : Byte) (s : State) : Res State :=
  match fieldX op with
  | 0 => opRot (rotOf (fieldY op)) (operand8Of (fieldZ op)) s
  | 1 => opBit (bitOf (fieldY op)) (operand8Of (fieldZ op)) s
  | 2 => opRes (bitOf (fieldY op)) (operand8Of (fieldZ op)) s
  | _ => opSet (bitOf (fieldY op)) (operand8Of (fieldZ op)) s

/-- R102 step 2 for the row of the prefix byte: "read one more byte and advance again", then the extended instruction it
is, refused if `REFUSED_OPCODES` holds it. The fetch never hands this row to `exec`: 0xCB and its byte are one
extended instruction (log 11). -/
def opPrefixed (s : State) : Res State :=
  andThen (fetch8 s) fun (op, s1) =>
  if s1.refuses true op then raise (.refusedOpcode true op s1.opAddr) s1 else opExtended op s1

/-- R102: PREFIX CB (CB). -/
def execPrefixCB (s : State) : Res State := opPrefixed s

/-- R121: (illegal) (D3). -/
def execIllegalD3 (s : State) : Res State := opIllegal 0xD3 s

/-- R121: (illegal) (DB). -/
def execIllegalDB (s : State) : Res State := opIllegal 0xDB s

/-- R121: (illegal) (DD). -/
def execIllegalDD (s : State) : Res State := opIllegal 0xDD s

/-- R121: (illegal) (E3). -/
def execIllegalE3 (s : State) : Res State := opIllegal 0xE3 s

/-- R121: (illegal) (E4). -/
def execIllegalE4 (s : State) : Res State := opIllegal 0xE4 s

/-- R121: (illegal) (EB). -/
def execIllegalEB (s : State) : Res State := opIllegal 0xEB s

/-- R121: (illegal) (EC). -/
def execIllegalEC (s : State) : Res State := opIllegal 0xEC s

/-- R121: (illegal) (ED). -/
def execIllegalED (s : State) : Res State := opIllegal 0xED s

/-- R121: (illegal) (F4). -/
def execIllegalF4 (s : State) : Res State := opIllegal 0xF4 s

/-- R121: (illegal) (FC). -/
def execIllegalFC (s : State) : Res State := opIllegal 0xFC s

/-- R121: (illegal) (FD). -/
def execIllegalFD (s : State) : Res State := opIllegal 0xFD s

end Sys2Proof.Machine
end

