-- ==== Sys2Proof/Machine/AccumulatorMisc.lean ====
section
/-! DEFINITION. Accumulator rotates and flag operations (`49_accumulator_misc.md` R340-R347). -/

namespace Sys2Proof.Machine

/-- R340-R343: a rotate of A; Z is always 0. -/
def opRotA (op : RotOp) (s : State) : Res State :=
  .next (((s.setA (rot op s.regs.a s.regs.f.c).1).setF
    ⟨false, false, false, (rot op s.regs.a s.regs.f.c).2⟩).took 1)

/-- R340: RLCA (07). -/
def execRlca (s : State) : Res State := opRotA .rlc s

/-- R341: RRCA (0F). -/
def execRrca (s : State) : Res State := opRotA .rrc s

/-- R342: RLA (17). -/
def execRla (s : State) : Res State := opRotA .rl s

/-- R343: RRA (1F). -/
def execRra (s : State) : Res State := opRotA .rr s

/-- R344: DAA (27). -/
def execDaa (s : State) : Res State := .next (((s.setA (daaValue s.regs.a s.regs.f)).setF (daaFlags s.regs.a s.regs.f)).took 1)

/-- R345: CPL (2F). -/
def execCpl (s : State) : Res State := .next (((s.setA (s.regs.a ^^^ 0xFF)).setF { s.regs.f with n := true, h := true }).took 1)

/-- R346: SCF (37). -/
def execScf (s : State) : Res State := .next ((s.setF { s.regs.f with n := false, h := false, c := true }).took 1)

/-- R347: CCF (3F). -/
def execCcf (s : State) : Res State := .next ((s.setF { s.regs.f with n := false, h := false, c := !s.regs.f.c }).took 1)

end Sys2Proof.Machine
end

