-- ==== Sys2Proof/Machine/Alu.lean ====
section
/-! DEFINITION. Arithmetic and logic (`45_alu.md` R280-R291). -/

namespace Sys2Proof.Machine

/-- R281-R288 on an operand value: A and all four flags. -/
def aluApply (op : AluOp) (v : Byte) (s : State) : State :=
  (s.setA (alu op s.regs.a v s.regs.f).1).setF (alu op s.regs.a v s.regs.f).2

/-- R280: the register and the (HL) form. -/
def opAlu (op : AluOp) (o : Operand8) (s : State) : Res State :=
  andThen (readOperand o s) fun (v, s1) => .next ((aluApply op v s1).took (cyclesBy o 1 2))

/-- R280: the immediate form. -/
def opAluImm (op : AluOp) (n : Byte) (s : State) : Res State := .next ((aluApply op n s).took 2)

/-- R290: ADD HL,rr. -/
def opAddHL (r : R16) (s : State) : Res State :=
  .next (((s.setHL (s.regs.hl + s.regs.get16 r)).setF (addHLFlags s.regs.hl (s.regs.get16 r) s.regs.f)).took 2)

/-- R290: ADD HL,BC (09). -/
def execAdd_hl_bc (s : State) : Res State := opAddHL .bc s

/-- R290: ADD HL,DE (19). -/
def execAdd_hl_de (s : State) : Res State := opAddHL .de s

/-- R290: ADD HL,HL (29). -/
def execAdd_hl_hl (s : State) : Res State := opAddHL .hl s

/-- R290: ADD HL,SP (39). -/
def execAdd_hl_sp (s : State) : Res State := opAddHL .sp s

/-- R281: ADD A,B (80). -/
def execAdd_a_b (s : State) : Res State := opAlu .add (.reg .b) s

/-- R281: ADD A,C (81). -/
def execAdd_a_c (s : State) : Res State := opAlu .add (.reg .c) s

/-- R281: ADD A,D (82). -/
def execAdd_a_d (s : State) : Res State := opAlu .add (.reg .d) s

/-- R281: ADD A,E (83). -/
def execAdd_a_e (s : State) : Res State := opAlu .add (.reg .e) s

/-- R281: ADD A,H (84). -/
def execAdd_a_h (s : State) : Res State := opAlu .add (.reg .h) s

/-- R281: ADD A,L (85). -/
def execAdd_a_l (s : State) : Res State := opAlu .add (.reg .l) s

/-- R281: ADD A,(HL) (86). -/
def execAdd_a_atHL (s : State) : Res State := opAlu .add .atHL s

/-- R281: ADD A,A (87). -/
def execAdd_a_a (s : State) : Res State := opAlu .add (.reg .a) s

/-- R282: ADC A,B (88). -/
def execAdc_a_b (s : State) : Res State := opAlu .adc (.reg .b) s

/-- R282: ADC A,C (89). -/
def execAdc_a_c (s : State) : Res State := opAlu .adc (.reg .c) s

/-- R282: ADC A,D (8A). -/
def execAdc_a_d (s : State) : Res State := opAlu .adc (.reg .d) s

/-- R282: ADC A,E (8B). -/
def execAdc_a_e (s : State) : Res State := opAlu .adc (.reg .e) s

/-- R282: ADC A,H (8C). -/
def execAdc_a_h (s : State) : Res State := opAlu .adc (.reg .h) s

/-- R282: ADC A,L (8D). -/
def execAdc_a_l (s : State) : Res State := opAlu .adc (.reg .l) s

/-- R282: ADC A,(HL) (8E). -/
def execAdc_a_atHL (s : State) : Res State := opAlu .adc .atHL s

/-- R282: ADC A,A (8F). -/
def execAdc_a_a (s : State) : Res State := opAlu .adc (.reg .a) s

/-- R283: SUB B (90). -/
def execSub_b (s : State) : Res State := opAlu .sub (.reg .b) s

/-- R283: SUB C (91). -/
def execSub_c (s : State) : Res State := opAlu .sub (.reg .c) s

/-- R283: SUB D (92). -/
def execSub_d (s : State) : Res State := opAlu .sub (.reg .d) s

/-- R283: SUB E (93). -/
def execSub_e (s : State) : Res State := opAlu .sub (.reg .e) s

/-- R283: SUB H (94). -/
def execSub_h (s : State) : Res State := opAlu .sub (.reg .h) s

/-- R283: SUB L (95). -/
def execSub_l (s : State) : Res State := opAlu .sub (.reg .l) s

/-- R283: SUB (HL) (96). -/
def execSub_atHL (s : State) : Res State := opAlu .sub .atHL s

/-- R283: SUB A (97). -/
def execSub_a (s : State) : Res State := opAlu .sub (.reg .a) s

/-- R284: SBC A,B (98). -/
def execSbc_a_b (s : State) : Res State := opAlu .sbc (.reg .b) s

/-- R284: SBC A,C (99). -/
def execSbc_a_c (s : State) : Res State := opAlu .sbc (.reg .c) s

/-- R284: SBC A,D (9A). -/
def execSbc_a_d (s : State) : Res State := opAlu .sbc (.reg .d) s

/-- R284: SBC A,E (9B). -/
def execSbc_a_e (s : State) : Res State := opAlu .sbc (.reg .e) s

/-- R284: SBC A,H (9C). -/
def execSbc_a_h (s : State) : Res State := opAlu .sbc (.reg .h) s

/-- R284: SBC A,L (9D). -/
def execSbc_a_l (s : State) : Res State := opAlu .sbc (.reg .l) s

/-- R284: SBC A,(HL) (9E). -/
def execSbc_a_atHL (s : State) : Res State := opAlu .sbc .atHL s

/-- R284: SBC A,A (9F). -/
def execSbc_a_a (s : State) : Res State := opAlu .sbc (.reg .a) s

/-- R285: AND B (A0). -/
def execAnd_b (s : State) : Res State := opAlu .and (.reg .b) s

/-- R285: AND C (A1). -/
def execAnd_c (s : State) : Res State := opAlu .and (.reg .c) s

/-- R285: AND D (A2). -/
def execAnd_d (s : State) : Res State := opAlu .and (.reg .d) s

/-- R285: AND E (A3). -/
def execAnd_e (s : State) : Res State := opAlu .and (.reg .e) s

/-- R285: AND H (A4). -/
def execAnd_h (s : State) : Res State := opAlu .and (.reg .h) s

/-- R285: AND L (A5). -/
def execAnd_l (s : State) : Res State := opAlu .and (.reg .l) s

/-- R285: AND (HL) (A6). -/
def execAnd_atHL (s : State) : Res State := opAlu .and .atHL s

/-- R285: AND A (A7). -/
def execAnd_a (s : State) : Res State := opAlu .and (.reg .a) s

/-- R286: XOR B (A8). -/
def execXor_b (s : State) : Res State := opAlu .xor (.reg .b) s

/-- R286: XOR C (A9). -/
def execXor_c (s : State) : Res State := opAlu .xor (.reg .c) s

/-- R286: XOR D (AA). -/
def execXor_d (s : State) : Res State := opAlu .xor (.reg .d) s

/-- R286: XOR E (AB). -/
def execXor_e (s : State) : Res State := opAlu .xor (.reg .e) s

/-- R286: XOR H (AC). -/
def execXor_h (s : State) : Res State := opAlu .xor (.reg .h) s

/-- R286: XOR L (AD). -/
def execXor_l (s : State) : Res State := opAlu .xor (.reg .l) s

/-- R286: XOR (HL) (AE). -/
def execXor_atHL (s : State) : Res State := opAlu .xor .atHL s

/-- R286: XOR A (AF). -/
def execXor_a (s : State) : Res State := opAlu .xor (.reg .a) s

/-- R287: OR B (B0). -/
def execOr_b (s : State) : Res State := opAlu .or (.reg .b) s

/-- R287: OR C (B1). -/
def execOr_c (s : State) : Res State := opAlu .or (.reg .c) s

/-- R287: OR D (B2). -/
def execOr_d (s : State) : Res State := opAlu .or (.reg .d) s

/-- R287: OR E (B3). -/
def execOr_e (s : State) : Res State := opAlu .or (.reg .e) s

/-- R287: OR H (B4). -/
def execOr_h (s : State) : Res State := opAlu .or (.reg .h) s

/-- R287: OR L (B5). -/
def execOr_l (s : State) : Res State := opAlu .or (.reg .l) s

/-- R287: OR (HL) (B6). -/
def execOr_atHL (s : State) : Res State := opAlu .or .atHL s

/-- R287: OR A (B7). -/
def execOr_a (s : State) : Res State := opAlu .or (.reg .a) s

/-- R288: CP B (B8). -/
def execCp_b (s : State) : Res State := opAlu .cp (.reg .b) s

/-- R288: CP C (B9). -/
def execCp_c (s : State) : Res State := opAlu .cp (.reg .c) s

/-- R288: CP D (BA). -/
def execCp_d (s : State) : Res State := opAlu .cp (.reg .d) s

/-- R288: CP E (BB). -/
def execCp_e (s : State) : Res State := opAlu .cp (.reg .e) s

/-- R288: CP H (BC). -/
def execCp_h (s : State) : Res State := opAlu .cp (.reg .h) s

/-- R288: CP L (BD). -/
def execCp_l (s : State) : Res State := opAlu .cp (.reg .l) s

/-- R288: CP (HL) (BE). -/
def execCp_atHL (s : State) : Res State := opAlu .cp .atHL s

/-- R288: CP A (BF). -/
def execCp_a (s : State) : Res State := opAlu .cp (.reg .a) s

/-- R281: ADD A,d8 (C6). -/
def execAdd_a_d8 (n : Byte) (s : State) : Res State := opAluImm .add n s

/-- R282: ADC A,d8 (CE). -/
def execAdc_a_d8 (n : Byte) (s : State) : Res State := opAluImm .adc n s

/-- R283: SUB d8 (D6). -/
def execSub_d8 (n : Byte) (s : State) : Res State := opAluImm .sub n s

/-- R284: SBC A,d8 (DE). -/
def execSbc_a_d8 (n : Byte) (s : State) : Res State := opAluImm .sbc n s

/-- R285: AND d8 (E6). -/
def execAnd_d8 (n : Byte) (s : State) : Res State := opAluImm .and n s

/-- R291: ADD SP,e8 (E8). -/
def execAdd_sp_e8 (n : Byte) (s : State) : Res State := .next (((s.setSP (s.regs.sp + sext16 n)).setF (spAddFlags s.regs.sp n)).took 4)

/-- R286: XOR d8 (EE). -/
def execXor_d8 (n : Byte) (s : State) : Res State := opAluImm .xor n s

/-- R287: OR d8 (F6). -/
def execOr_d8 (n : Byte) (s : State) : Res State := opAluImm .or n s

/-- R288: CP d8 (FE). -/
def execCp_d8 (n : Byte) (s : State) : Res State := opAluImm .cp n s

end Sys2Proof.Machine
end

