-- ==== Sys2Proof/Machine/Control.lean ====
section
/-! DEFINITION. Jumps, calls and returns (`41_control_transfer.md` R210-R221). PC is the address of the next instruction when a
meaning runs (R24). -/

namespace Sys2Proof.Machine

/-- R211: JR cc,e8. -/
def opJrCond (cc : Cond) (n : Byte) (s : State) : Res State :=
  if condHolds cc s.regs.f then .next ((s.setPC (s.pc + sext16 n)).took 3) else .next (s.took 2)

/-- R213: JP cc,a16. -/
def opJpCond (cc : Cond) (a : Word) (s : State) : Res State :=
  if condHolds cc s.regs.f then .next ((s.setPC a).took 4) else .next (s.took 3)

/-- R215: push PC, then jump. -/
def opCall (a : Word) (cycles : Nat) (s : State) : Res State :=
  andThen (push16 s.pc s) fun s1 => .next ((s1.setPC a).took cycles)

/-- R216: CALL cc,a16. -/
def opCallCond (cc : Cond) (a : Word) (s : State) : Res State :=
  if condHolds cc s.regs.f then opCall a 6 s else .next (s.took 3)

/-- R217: pop PC. -/
def opRet (cycles : Nat) (s : State) : Res State :=
  andThen (pop16 s) fun (v, s1) => .next ((s1.setPC v).took cycles)

/-- R218: RET cc. -/
def opRetCond (cc : Cond) (s : State) : Res State :=
  if condHolds cc s.regs.f then opRet 5 s else .next (s.took 2)

/-- R219: the return from an interrupt handler. -/
def opReti (s : State) : Res State := andThen (interruptReturn s) fun s1 => .next (s1.took 4)

/-- R220: push PC, then jump to `y * 8`. -/
def opRst (y : Fin 8) (s : State) : Res State := opCall (rstTarget y) 4 s

/-- R210: JR e8 (18). -/
def execJr_e8 (n : Byte) (s : State) : Res State := .next ((s.setPC (s.pc + sext16 n)).took 3)

/-- R211: JR NZ,e8 (20). -/
def execJr_nz_e8 (n : Byte) (s : State) : Res State := opJrCond .nz n s

/-- R211: JR Z,e8 (28). -/
def execJr_z_e8 (n : Byte) (s : State) : Res State := opJrCond .z n s

/-- R211: JR NC,e8 (30). -/
def execJr_nc_e8 (n : Byte) (s : State) : Res State := opJrCond .nc n s

/-- R211: JR C,e8 (38). -/
def execJr_c_e8 (n : Byte) (s : State) : Res State := opJrCond .c n s

/-- R218: RET NZ (C0). -/
def execRet_nz (s : State) : Res State := opRetCond .nz s

/-- R213: JP NZ,a16 (C2). -/
def execJp_nz_a16 (a : Word) (s : State) : Res State := opJpCond .nz a s

/-- R212: JP a16 (C3). -/
def execJp_a16 (a : Word) (s : State) : Res State := .next ((s.setPC a).took 4)

/-- R216: CALL NZ,a16 (C4). -/
def execCall_nz_a16 (a : Word) (s : State) : Res State := opCallCond .nz a s

/-- R220: RST 00H (C7). -/
def execRst_00h (s : State) : Res State := opRst 0 s

/-- R218: RET Z (C8). -/
def execRet_z (s : State) : Res State := opRetCond .z s

/-- R217: RET (C9). -/
def execRet (s : State) : Res State := opRet 4 s

/-- R213: JP Z,a16 (CA). -/
def execJp_z_a16 (a : Word) (s : State) : Res State := opJpCond .z a s

/-- R216: CALL Z,a16 (CC). -/
def execCall_z_a16 (a : Word) (s : State) : Res State := opCallCond .z a s

/-- R215: CALL a16 (CD). -/
def execCall_a16 (a : Word) (s : State) : Res State := opCall a 6 s

/-- R220: RST 08H (CF). -/
def execRst_08h (s : State) : Res State := opRst 1 s

/-- R218: RET NC (D0). -/
def execRet_nc (s : State) : Res State := opRetCond .nc s

/-- R213: JP NC,a16 (D2). -/
def execJp_nc_a16 (a : Word) (s : State) : Res State := opJpCond .nc a s

/-- R216: CALL NC,a16 (D4). -/
def execCall_nc_a16 (a : Word) (s : State) : Res State := opCallCond .nc a s

/-- R220: RST 10H (D7). -/
def execRst_10h (s : State) : Res State := opRst 2 s

/-- R218: RET C (D8). -/
def execRet_c (s : State) : Res State := opRetCond .c s

/-- R219: RETI (D9). -/
def execReti (s : State) : Res State := opReti s

/-- R213: JP C,a16 (DA). -/
def execJp_c_a16 (a : Word) (s : State) : Res State := opJpCond .c a s

/-- R216: CALL C,a16 (DC). -/
def execCall_c_a16 (a : Word) (s : State) : Res State := opCallCond .c a s

/-- R220: RST 18H (DF). -/
def execRst_18h (s : State) : Res State := opRst 3 s

/-- R220: RST 20H (E7). -/
def execRst_20h (s : State) : Res State := opRst 4 s

/-- R214: JP HL (E9). -/
def execJp_hl (s : State) : Res State := .next ((s.setPC s.regs.hl).took 1)

/-- R220: RST 28H (EF). -/
def execRst_28h (s : State) : Res State := opRst 5 s

/-- R220: RST 30H (F7). -/
def execRst_30h (s : State) : Res State := opRst 6 s

/-- R220: RST 38H (FF). -/
def execRst_38h (s : State) : Res State := opRst 7 s

end Sys2Proof.Machine
end

