-- ==== Sys2Proof/Machine/IncDec.lean ====
section
/-! DEFINITION. Increment and decrement (`44_inc_dec.md` R270-R275). The Carry flag never changes. -/

namespace Sys2Proof.Machine

/-- R270, R271: the operand plus 1; the flags use the value read and the value computed. -/
def opInc (o : Operand8) (s : State) : Res State :=
  andThen (readOperand o s) fun (old, s1) =>
  andThen (writeOperand o (old + 1) s1) fun s2 => .next ((s2.setF (incFlags old s2.regs.f)).took (cyclesBy o 1 3))

/-- R272, R273: the operand minus 1. -/
def opDec (o : Operand8) (s : State) : Res State :=
  andThen (readOperand o s) fun (old, s1) =>
  andThen (writeOperand o (old - 1) s1) fun s2 => .next ((s2.setF (decFlags old s2.regs.f)).took (cyclesBy o 1 3))

/-- R274: INC BC (03). -/
def execInc_bc (s : State) : Res State := .next ((s.set16 .bc (s.regs.get16 .bc + 1)).took 2)

/-- R270: INC B (04). -/
def execInc_b (s : State) : Res State := opInc (.reg .b) s

/-- R272: DEC B (05). -/
def execDec_b (s : State) : Res State := opDec (.reg .b) s

/-- R275: DEC BC (0B). -/
def execDec_bc (s : State) : Res State := .next ((s.set16 .bc (s.regs.get16 .bc - 1)).took 2)

/-- R270: INC C (0C). -/
def execInc_c (s : State) : Res State := opInc (.reg .c) s

/-- R272: DEC C (0D). -/
def execDec_c (s : State) : Res State := opDec (.reg .c) s

/-- R274: INC DE (13). -/
def execInc_de (s : State) : Res State := .next ((s.set16 .de (s.regs.get16 .de + 1)).took 2)

/-- R270: INC D (14). -/
def execInc_d (s : State) : Res State := opInc (.reg .d) s

/-- R272: DEC D (15). -/
def execDec_d (s : State) : Res State := opDec (.reg .d) s

/-- R275: DEC DE (1B). -/
def execDec_de (s : State) : Res State := .next ((s.set16 .de (s.regs.get16 .de - 1)).took 2)

/-- R270: INC E (1C). -/
def execInc_e (s : State) : Res State := opInc (.reg .e) s

/-- R272: DEC E (1D). -/
def execDec_e (s : State) : Res State := opDec (.reg .e) s

/-- R274: INC HL (23). -/
def execInc_hl (s : State) : Res State := .next ((s.set16 .hl (s.regs.get16 .hl + 1)).took 2)

/-- R270: INC H (24). -/
def execInc_h (s : State) : Res State := opInc (.reg .h) s

/-- R272: DEC H (25). -/
def execDec_h (s : State) : Res State := opDec (.reg .h) s

/-- R275: DEC HL (2B). -/
def execDec_hl (s : State) : Res State := .next ((s.set16 .hl (s.regs.get16 .hl - 1)).took 2)

/-- R270: INC L (2C). -/
def execInc_l (s : State) : Res State := opInc (.reg .l) s

/-- R272: DEC L (2D). -/
def execDec_l (s : State) : Res State := opDec (.reg .l) s

/-- R274: INC SP (33). -/
def execInc_sp (s : State) : Res State := .next ((s.set16 .sp (s.regs.get16 .sp + 1)).took 2)

/-- R271: INC (HL) (34). -/
def execInc_atHL (s : State) : Res State := opInc .atHL s

/-- R273: DEC (HL) (35). -/
def execDec_atHL (s : State) : Res State := opDec .atHL s

/-- R275: DEC SP (3B). -/
def execDec_sp (s : State) : Res State := .next ((s.set16 .sp (s.regs.get16 .sp - 1)).took 2)

/-- R270: INC A (3C). -/
def execInc_a (s : State) : Res State := opInc (.reg .a) s

/-- R272: DEC A (3D). -/
def execDec_a (s : State) : Res State := opDec (.reg .a) s

end Sys2Proof.Machine
end

