-- ==== Sys2Proof/Machine/Loads.lean ====
section
/-! DEFINITION. Loads and stores (`42_loads.md` R230-R246). -/

namespace Sys2Proof.Machine

/-- R230, R231, R232: the source operand is read, then the destination written. -/
def opLd (dst src : Operand8) (s : State) : Res State :=
  andThen (readOperand src s) fun (v, s1) =>
  andThen (writeOperand dst v s1) fun s2 => .next (s2.took (max (cyclesBy dst 1 2) (cyclesBy src 1 2)))

/-- R233, R234: an immediate byte to a register or to (HL). -/
def opLdImm (dst : Operand8) (n : Byte) (s : State) : Res State :=
  andThen (writeOperand dst n s) fun s1 => .next (s1.took (cyclesBy dst 2 3))

/-- R245, R300, R302: A to an address. -/
def opStoreA (a : Word) (cycles : Nat) (s : State) : Res State :=
  andThen (memWrite a s.regs.a s) fun s1 => .next (s1.took cycles)

/-- R246, R301, R303: the byte at an address to A. -/
def opLoadA (a : Word) (cycles : Nat) (s : State) : Res State :=
  andThen (memRead a s) fun (v, s1) => .next ((s1.setA v).took cycles)

/-- R235, R237, R238: A to (BC), (DE), (HL+), (HL-); HL moves after the store. -/
def opStoreIndirect (k : IndirectA) (s : State) : Res State :=
  andThen (memWrite (indirectAddr k s.regs) s.regs.a s) fun s1 => .next ((indirectStep k s1).took 2)

/-- R236, R239, R240: (BC), (DE), (HL+), (HL-) to A; HL moves after the load. -/
def opLoadIndirect (k : IndirectA) (s : State) : Res State :=
  andThen (memRead (indirectAddr k s.regs) s) fun (v, s1) => .next ((indirectStep k (s1.setA v)).took 2)

/-- R241: LD BC,d16 (01). -/
def execLd_bc_d16 (v : Word) (s : State) : Res State := .next ((s.set16 .bc v).took 3)

/-- R235: LD (BC),A (02). -/
def execLd_atBC_a (s : State) : Res State := opStoreIndirect .bc s

/-- R233: LD B,d8 (06). -/
def execLd_b_d8 (n : Byte) (s : State) : Res State := opLdImm (.reg .b) n s

/-- R242: LD (a16),SP (08). -/
def execLd_atA16_sp (a : Word) (s : State) : Res State := andThen (memWrite16 a s.regs.sp s) fun s1 => .next (s1.took 5)

/-- R236: LD A,(BC) (0A). -/
def execLd_a_atBC (s : State) : Res State := opLoadIndirect .bc s

/-- R233: LD C,d8 (0E). -/
def execLd_c_d8 (n : Byte) (s : State) : Res State := opLdImm (.reg .c) n s

/-- R241: LD DE,d16 (11). -/
def execLd_de_d16 (v : Word) (s : State) : Res State := .next ((s.set16 .de v).took 3)

/-- R235: LD (DE),A (12). -/
def execLd_atDE_a (s : State) : Res State := opStoreIndirect .de s

/-- R233: LD D,d8 (16). -/
def execLd_d_d8 (n : Byte) (s : State) : Res State := opLdImm (.reg .d) n s

/-- R236: LD A,(DE) (1A). -/
def execLd_a_atDE (s : State) : Res State := opLoadIndirect .de s

/-- R233: LD E,d8 (1E). -/
def execLd_e_d8 (n : Byte) (s : State) : Res State := opLdImm (.reg .e) n s

/-- R241: LD HL,d16 (21). -/
def execLd_hl_d16 (v : Word) (s : State) : Res State := .next ((s.set16 .hl v).took 3)

/-- R237: LD (HL+),A (22). -/
def execLd_atHLi_a (s : State) : Res State := opStoreIndirect .hli s

/-- R233: LD H,d8 (26). -/
def execLd_h_d8 (n : Byte) (s : State) : Res State := opLdImm (.reg .h) n s

/-- R239: LD A,(HL+) (2A). -/
def execLd_a_atHLi (s : State) : Res State := opLoadIndirect .hli s

/-- R233: LD L,d8 (2E). -/
def execLd_l_d8 (n : Byte) (s : State) : Res State := opLdImm (.reg .l) n s

/-- R241: LD SP,d16 (31). -/
def execLd_sp_d16 (v : Word) (s : State) : Res State := .next ((s.set16 .sp v).took 3)

/-- R238: LD (HL-),A (32). -/
def execLd_atHLd_a (s : State) : Res State := opStoreIndirect .hld s

/-- R234: LD (HL),d8 (36). -/
def execLd_atHL_d8 (n : Byte) (s : State) : Res State := opLdImm .atHL n s

/-- R240: LD A,(HL-) (3A). -/
def execLd_a_atHLd (s : State) : Res State := opLoadIndirect .hld s

/-- R233: LD A,d8 (3E). -/
def execLd_a_d8 (n : Byte) (s : State) : Res State := opLdImm (.reg .a) n s

/-- R230: LD B,B (40). -/
def execLd_b_b (s : State) : Res State := opLd (.reg .b) (.reg .b) s

/-- R230: LD B,C (41). -/
def execLd_b_c (s : State) : Res State := opLd (.reg .b) (.reg .c) s

/-- R230: LD B,D (42). -/
def execLd_b_d (s : State) : Res State := opLd (.reg .b) (.reg .d) s

/-- R230: LD B,E (43). -/
def execLd_b_e (s : State) : Res State := opLd (.reg .b) (.reg .e) s

/-- R230: LD B,H (44). -/
def execLd_b_h (s : State) : Res State := opLd (.reg .b) (.reg .h) s

/-- R230: LD B,L (45). -/
def execLd_b_l (s : State) : Res State := opLd (.reg .b) (.reg .l) s

/-- R231: LD B,(HL) (46). -/
def execLd_b_atHL (s : State) : Res State := opLd (.reg .b) .atHL s

/-- R230: LD B,A (47). -/
def execLd_b_a (s : State) : Res State := opLd (.reg .b) (.reg .a) s

/-- R230: LD C,B (48). -/
def execLd_c_b (s : State) : Res State := opLd (.reg .c) (.reg .b) s

/-- R230: LD C,C (49). -/
def execLd_c_c (s : State) : Res State := opLd (.reg .c) (.reg .c) s

/-- R230: LD C,D (4A). -/
def execLd_c_d (s : State) : Res State := opLd (.reg .c) (.reg .d) s

/-- R230: LD C,E (4B). -/
def execLd_c_e (s : State) : Res State := opLd (.reg .c) (.reg .e) s

/-- R230: LD C,H (4C). -/
def execLd_c_h (s : State) : Res State := opLd (.reg .c) (.reg .h) s

/-- R230: LD C,L (4D). -/
def execLd_c_l (s : State) : Res State := opLd (.reg .c) (.reg .l) s

/-- R231: LD C,(HL) (4E). -/
def execLd_c_atHL (s : State) : Res State := opLd (.reg .c) .atHL s

/-- R230: LD C,A (4F). -/
def execLd_c_a (s : State) : Res State := opLd (.reg .c) (.reg .a) s

/-- R230: LD D,B (50). -/
def execLd_d_b (s : State) : Res State := opLd (.reg .d) (.reg .b) s

/-- R230: LD D,C (51). -/
def execLd_d_c (s : State) : Res State := opLd (.reg .d) (.reg .c) s

/-- R230: LD D,D (52). -/
def execLd_d_d (s : State) : Res State := opLd (.reg .d) (.reg .d) s

/-- R230: LD D,E (53). -/
def execLd_d_e (s : State) : Res State := opLd (.reg .d) (.reg .e) s

/-- R230: LD D,H (54). -/
def execLd_d_h (s : State) : Res State := opLd (.reg .d) (.reg .h) s

/-- R230: LD D,L (55). -/
def execLd_d_l (s : State) : Res State := opLd (.reg .d) (.reg .l) s

/-- R231: LD D,(HL) (56). -/
def execLd_d_atHL (s : State) : Res State := opLd (.reg .d) .atHL s

/-- R230: LD D,A (57). -/
def execLd_d_a (s : State) : Res State := opLd (.reg .d) (.reg .a) s

/-- R230: LD E,B (58). -/
def execLd_e_b (s : State) : Res State := opLd (.reg .e) (.reg .b) s

/-- R230: LD E,C (59). -/
def execLd_e_c (s : State) : Res State := opLd (.reg .e) (.reg .c) s

/-- R230: LD E,D (5A). -/
def execLd_e_d (s : State) : Res State := opLd (.reg .e) (.reg .d) s

/-- R230: LD E,E (5B). -/
def execLd_e_e (s : State) : Res State := opLd (.reg .e) (.reg .e) s

/-- R230: LD E,H (5C). -/
def execLd_e_h (s : State) : Res State := opLd (.reg .e) (.reg .h) s

/-- R230: LD E,L (5D). -/
def execLd_e_l (s : State) : Res State := opLd (.reg .e) (.reg .l) s

/-- R231: LD E,(HL) (5E). -/
def execLd_e_atHL (s : State) : Res State := opLd (.reg .e) .atHL s

/-- R230: LD E,A (5F). -/
def execLd_e_a (s : State) : Res State := opLd (.reg .e) (.reg .a) s

/-- R230: LD H,B (60). -/
def execLd_h_b (s : State) : Res State := opLd (.reg .h) (.reg .b) s

/-- R230: LD H,C (61). -/
def execLd_h_c (s : State) : Res State := opLd (.reg .h) (.reg .c) s

/-- R230: LD H,D (62). -/
def execLd_h_d (s : State) : Res State := opLd (.reg .h) (.reg .d) s

/-- R230: LD H,E (63). -/
def execLd_h_e (s : State) : Res State := opLd (.reg .h) (.reg .e) s

/-- R230: LD H,H (64). -/
def execLd_h_h (s : State) : Res State := opLd (.reg .h) (.reg .h) s

/-- R230: LD H,L (65). -/
def execLd_h_l (s : State) : Res State := opLd (.reg .h) (.reg .l) s

/-- R231: LD H,(HL) (66). -/
def execLd_h_atHL (s : State) : Res State := opLd (.reg .h) .atHL s

/-- R230: LD H,A (67). -/
def execLd_h_a (s : State) : Res State := opLd (.reg .h) (.reg .a) s

/-- R230: LD L,B (68). -/
def execLd_l_b (s : State) : Res State := opLd (.reg .l) (.reg .b) s

/-- R230: LD L,C (69). -/
def execLd_l_c (s : State) : Res State := opLd (.reg .l) (.reg .c) s

/-- R230: LD L,D (6A). -/
def execLd_l_d (s : State) : Res State := opLd (.reg .l) (.reg .d) s

/-- R230: LD L,E (6B). -/
def execLd_l_e (s : State) : Res State := opLd (.reg .l) (.reg .e) s

/-- R230: LD L,H (6C). -/
def execLd_l_h (s : State) : Res State := opLd (.reg .l) (.reg .h) s

/-- R230: LD L,L (6D). -/
def execLd_l_l (s : State) : Res State := opLd (.reg .l) (.reg .l) s

/-- R231: LD L,(HL) (6E). -/
def execLd_l_atHL (s : State) : Res State := opLd (.reg .l) .atHL s

/-- R230: LD L,A (6F). -/
def execLd_l_a (s : State) : Res State := opLd (.reg .l) (.reg .a) s

/-- R232: LD (HL),B (70). -/
def execLd_atHL_b (s : State) : Res State := opLd .atHL (.reg .b) s

/-- R232: LD (HL),C (71). -/
def execLd_atHL_c (s : State) : Res State := opLd .atHL (.reg .c) s

/-- R232: LD (HL),D (72). -/
def execLd_atHL_d (s : State) : Res State := opLd .atHL (.reg .d) s

/-- R232: LD (HL),E (73). -/
def execLd_atHL_e (s : State) : Res State := opLd .atHL (.reg .e) s

/-- R232: LD (HL),H (74). -/
def execLd_atHL_h (s : State) : Res State := opLd .atHL (.reg .h) s

/-- R232: LD (HL),L (75). -/
def execLd_atHL_l (s : State) : Res State := opLd .atHL (.reg .l) s

/-- R232: LD (HL),A (77). -/
def execLd_atHL_a (s : State) : Res State := opLd .atHL (.reg .a) s

/-- R230: LD A,B (78). -/
def execLd_a_b (s : State) : Res State := opLd (.reg .a) (.reg .b) s

/-- R230: LD A,C (79). -/
def execLd_a_c (s : State) : Res State := opLd (.reg .a) (.reg .c) s

/-- R230: LD A,D (7A). -/
def execLd_a_d (s : State) : Res State := opLd (.reg .a) (.reg .d) s

/-- R230: LD A,E (7B). -/
def execLd_a_e (s : State) : Res State := opLd (.reg .a) (.reg .e) s

/-- R230: LD A,H (7C). -/
def execLd_a_h (s : State) : Res State := opLd (.reg .a) (.reg .h) s

/-- R230: LD A,L (7D). -/
def execLd_a_l (s : State) : Res State := opLd (.reg .a) (.reg .l) s

/-- R231: LD A,(HL) (7E). -/
def execLd_a_atHL (s : State) : Res State := opLd (.reg .a) .atHL s

/-- R230: LD A,A (7F). -/
def execLd_a_a (s : State) : Res State := opLd (.reg .a) (.reg .a) s

/-- R245: LD (a16),A (EA). -/
def execLd_atA16_a (a : Word) (s : State) : Res State := opStoreA a 4 s

/-- R244: LD HL,SP+e8 (F8). -/
def execLd_hl_spE8 (n : Byte) (s : State) : Res State := .next (((s.setHL (s.regs.sp + sext16 n)).setF (spAddFlags s.regs.sp n)).took 3)

/-- R243: LD SP,HL (F9). -/
def execLd_sp_hl (s : State) : Res State := .next ((s.setSP s.regs.hl).took 2)

/-- R246: LD A,(a16) (FA). -/
def execLd_a_atA16 (a : Word) (s : State) : Res State := opLoadA a 4 s

end Sys2Proof.Machine
end

