-- ==== Sys2Proof/Machine/IoPort.lean ====
section
/-! DEFINITION. The high-page I/O forms (`46_io_port.md` R300-R303). -/

namespace Sys2Proof.Machine

/-- R300: LDH (a8),A (E0). -/
def execLdh_atA8_a (n : Byte) (s : State) : Res State := opStoreA (highPage n) 3 s

/-- R302: LD (C),A (E2). -/
def execLd_atC_a (s : State) : Res State := opStoreA (highPage s.regs.c) 2 s

/-- R301: LDH A,(a8) (F0). -/
def execLdh_a_atA8 (n : Byte) (s : State) : Res State := opLoadA (highPage n) 3 s

/-- R303: LD A,(C) (F2). -/
def execLd_a_atC (s : State) : Res State := opLoadA (highPage s.regs.c) 2 s

end Sys2Proof.Machine
end

