-- ==== Sys2Proof/Machine/NopStopHalt.lean ====
section
/-! DEFINITION. NOP, STOP, HALT, DI, EI (`40_nop_stop_halt.md` R200-R205). -/

namespace Sys2Proof.Machine

/-- R202: HALT. Nothing pending: HALTED. Pending with IME = 1: nothing, the next step dispatches. Pending with EI just
executed: the fault of R203. Pending with IME = 0: the HALT bug. -/
def opHalt (s : State) : Res State :=
  if s.pending = 0 then .next (State.took 1 { s with runState := .halted })
  else if s.ime then .next (s.took 1)
  else if s.eiPending then raise (.unmodelledHaltBug s.pc) s
  else .next (State.took 1 { s with haltBug := true })

/-- R200: NOP (00). -/
def execNop (s : State) : Res State := .next (s.took 1)

/-- R201: STOP (10); the operand byte is ignored. -/
def execStop (_n : Byte) (s : State) : Res State := .next (State.took 1 { s with runState := .stopped })

/-- R202: HALT (76). -/
def execHalt (s : State) : Res State := opHalt s

/-- R204: DI (F3). -/
def execDi (s : State) : Res State := .next (State.took 1 { s with ime := false, eiPending := false })

/-- R205: EI (FB). -/
def execEi (s : State) : Res State := .next (State.took 1 { s with eiPending := true })

end Sys2Proof.Machine
end

