-- ==== Sys2Proof/Machine/PushPop.lean ====
section
/-! DEFINITION. PUSH and POP (`43_push_pop.md` R260-R263). -/

namespace Sys2Proof.Machine

/-- R261. -/
def opPush (r : R16Stk) (s : State) : Res State :=
  andThen (push16 (s.regs.getStk r) s) fun s1 => .next (s1.took 4)

/-- R262; POP AF stores `v & 0xF0` in F. -/
def opPop (r : R16Stk) (s : State) : Res State :=
  andThen (pop16 s) fun (v, s1) => .next ((s1.setStk r v).took 3)

/-- R262: POP BC (C1). -/
def execPop_bc (s : State) : Res State := opPop .bc s

/-- R261: PUSH BC (C5). -/
def execPush_bc (s : State) : Res State := opPush .bc s

/-- R262: POP DE (D1). -/
def execPop_de (s : State) : Res State := opPop .de s

/-- R261: PUSH DE (D5). -/
def execPush_de (s : State) : Res State := opPush .de s

/-- R262: POP HL (E1). -/
def execPop_hl (s : State) : Res State := opPop .hl s

/-- R261: PUSH HL (E5). -/
def execPush_hl (s : State) : Res State := opPush .hl s

/-- R262: POP AF (F1). -/
def execPop_af (s : State) : Res State := opPop .af s

/-- R261: PUSH AF (F5). -/
def execPush_af (s : State) : Res State := opPush .af s

end Sys2Proof.Machine
end

