-- ==== Sys2Proof/Machine/Step.lean ====
section
/-! DEFINITION. One step of the machine (`30_encoding.md` R100) and the placing of a word where the next step fetches. -/

namespace Sys2Proof.Machine

/-- R100. A faulted and a STOPPED machine have no step. A halted step and a dispatch are followed by the devices; an
instruction by the EI delay, `break_hit` and the devices. A fault ends the step at once (R401). -/
def step (s : State) : Host.Outcome State Fault Refusal :=
  match s.stepKind with
  | .faulted => .fault (.alreadyFaulted s)
  | .stopped => .fault (.stuckStopped s)
  | .halted => .next (advanceDevices (haltedStep s))
  | .dispatch => andThen (dispatch s) fun s1 => .next (advanceDevices s1)
  | .execute =>
    andThen (fetchInstr s) fun (i, s1) =>
    andThen (exec i s1) fun s2 => .next (advanceDevices (finishInstr s.eiPending s2))

/-- `s` made ready to execute, with the instruction of a table word (zeros above `nbits`) in the bytes the next step
fetches (log 10). From State.reset only BOOT_ROM changes: it stands for the launch of a boot image. -/
def State.withFetchWord (s : State) (nbits w : Nat) : State :=
  s.readyToExecute.placeBytes s.readyToExecute.pc ((tableBytes nbits w).take 3)

end Sys2Proof.Machine
end

