-- ==== Sys2Proof/Safety.lean ====
section
/-! DEFINITION. What counts as a sound state and a safe access, in the terms the statements use: the canonical form of
byte storage, the invariants of the state, the end of a run, accesses that do not fault, and the addresses a store can
change. Nothing here is part of a step. -/

namespace Sys2Proof.Machine

/-! ## Canonical byte storage -/

/-- Addresses strictly rising from `lo`, and no cell that holds what an unlisted address reads as. -/
def Mem.risingFrom : Nat → Mem → Bool
  | _, [] => true
  | lo, (k, v) :: m => decide (lo ≤ k) && decide (v ≠ Config.unlisted) && Mem.risingFrom (k + 1) m

/-- The one canonical form: equal storage is equal data. -/
def Mem.wf (m : Mem) : Bool := Mem.risingFrom 0 m

/-- Every listed address satisfies `p`. -/
def Mem.within (p : Nat → Bool) (m : Mem) : Bool := m.all fun c => p c.1

/-- R54, R66-R68: an address whose byte is kept in `ram`. -/
def ramCell (p : EchoPolicy) (a : Nat) : Bool :=
  decide (a < 0x10000) &&
  match region (BitVec.ofNat 16 a) with
  | .cartFixed => false
  | .cartSwitchable => false
  | .vram => true
  | .cartRam => true
  | .wramFixed => true
  | .wramSwitchable => true
  | .echo => decide (p ≠ .mirror)
  | .oam => decide (a ≤ 0xFE9F)
  | .io => false
  | .hram => true
  | .ie => false

/-- R44, R47: an address whose byte is kept in `io`. -/
def ioCell (a : Nat) : Bool :=
  decide (0xFF00 ≤ a) && decide (a ≤ 0xFF7F) &&
  match ioRegAt (a % 256) with
  | .joypad => true
  | .storage => true
  | .stat => true
  | .div => false
  | .tima => false
  | .tma => false
  | .tac => false
  | .ifReg => false
  | .lcdc => false
  | .ly => false
  | .boot => false
  | .dma => false
  | .unnamed => false

/-- The memory invariant: each store canonical, with cells only where its bytes are kept. -/
def State.memoryWf (s : State) : Bool :=
  s.ram.wf && s.ram.within (ramCell s.params.echoPolicy) && s.io.wf && s.io.within ioCell &&
  s.bootRom.wf && s.bootRom.within (fun a => decide (a < 0x100)) && s.cartRom.wf

/-! ## The regions' bounds (R62) -/

/-- R62's column "first". -/
def Region.first : Region → Nat
  | .cartFixed => 0x0000
  | .cartSwitchable => 0x4000
  | .vram => 0x8000
  | .cartRam => 0xA000
  | .wramFixed => 0xC000
  | .wramSwitchable => 0xD000
  | .echo => 0xE000
  | .oam => 0xFE00
  | .io => 0xFF00
  | .hram => 0xFF80
  | .ie => 0xFFFF

/-- R62's column "last". -/
def Region.last : Region → Nat
  | .cartFixed => 0x3FFF
  | .cartSwitchable => 0x7FFF
  | .vram => 0x9FFF
  | .cartRam => 0xBFFF
  | .wramFixed => 0xCFFF
  | .wramSwitchable => 0xDFFF
  | .echo => 0xFDFF
  | .oam => 0xFEFF
  | .io => 0xFF7F
  | .hram => 0xFFFE
  | .ie => 0xFFFF

/-! ## The devices' invariants -/

/-- Parameters the scanline controller's rules make sense for (R8, R441-R443): a visible line has all three modes, a
frame has visible and other lines, and both counters fit their registers. -/
def paramsSane (p : Params) : Bool :=
  decide (0 < p.oamSearchDots) && decide (0 < p.transferDots) &&
  decide (p.oamSearchDots + p.transferDots < p.dotsPerLine) && decide (p.dotsPerLine < 0x10000) &&
  decide (0 < p.visibleLines) && decide (p.visibleLines < p.linesPerFrame) && decide (p.linesPerFrame < 0x100)

/-- R431, R434, R435: the latches are armed only inside a window, the request only with the reload, and a window has run
at most three invocations between steps. -/
def Timer.wf (t : Timer) : Bool :=
  (t.ovfPending || (!t.reloadArmed && !t.irqArmed && decide (t.ovfStep = 0))) &&
  (!t.irqArmed || t.reloadArmed) && decide (t.ovfStep.val < 4)

/-- R443: the mode a line and a dot are in. -/
def modeAt (p : Params) (line dot : Nat) : PpuMode :=
  if p.visibleLines ≤ line then .vblank
  else if dot < p.oamSearchDots then .oamSearch
  else if dot < p.oamSearchDots + p.transferDots then .transfer
  else .hblank

/-- R442, R443, R448: the counters are in range, the mode is that of the line and dot, and the queue holds at most
threshold + 7 pixels. -/
def Ppu.wf (p : Params) (u : Ppu) : Bool :=
  decide (u.dot.toNat < p.dotsPerLine) && decide (u.line.toNat < p.linesPerFrame) &&
  decide (u.mode = modeAt p u.line.toNat u.dot.toNat) &&
  decide (u.queue.length ≤ p.fetchQueueThreshold + 7)

/-- The devices' invariant. -/
def State.devicesWf (s : State) : Bool := paramsSane s.params && s.timer.wf && s.ppu.wf s.params

/-- R202, R203: a pending HALT bug is met by the very next fetch: the CPU runs, IME is 0 and no EI is pending. -/
def State.haltBugWf (s : State) : Bool :=
  !s.haltBug || (decide (s.runState = .running) && !s.ime && !s.eiPending)

/-! ## Launch and end of a run -/

/-- R503 and R54: what a launch supplies is canonical and lies where it is kept; BOOT_ROM has 256 bytes. A CART_ROM cell
at 0x8000 or above is never read (D6), so its length needs no premise (log 6). -/
def Launch.wf (k : Launch) : Bool :=
  k.initMem.wf && k.initMem.within (ramCell k.params.echoPolicy) && k.bootRom.wf &&
  k.bootRom.within (fun a => decide (a < 0x100)) && k.cartRom.wf && paramsSane k.params

/-- R512: a final state of a run that ends at `endPc`. -/
def State.final (endPc : Word) (s : State) : Bool :=
  decide (s.faults = []) && decide (s.runState = .running) && (!s.ime || decide (s.pending = 0)) && decide (s.pc = endPc)

/-! ## Accesses -/

/-- A read of `a` does not fault (R65, R67). -/
def State.canRead (s : State) (a : Word) : Bool := !s.restricted a

/-- A write to `a` does not fault (R66, R67, R48). -/
def State.canWrite (s : State) (a : Word) : Bool := !s.restricted a && !isDma a

/-- The byte an 8-bit operand is (R110). -/
def State.operand (s : State) (o : Operand8) : Byte :=
  match o with
  | .reg r => s.regs.get8 r
  | .atHL => s.peek s.regs.hl

/-- The state after reading an 8-bit operand. -/
def State.afterOperand (s : State) (o : Operand8) : State :=
  match o with
  | .reg _ => s
  | .atHL => s.afterRead s.regs.hl

/-- Reading this operand does not fault. -/
def State.canReadOperand (s : State) (o : Operand8) : Bool :=
  match o with
  | .reg _ => true
  | .atHL => s.canRead s.regs.hl

/-- Writing this operand does not fault. -/
def State.canWriteOperand (s : State) (o : Operand8) : Bool :=
  match o with
  | .reg _ => true
  | .atHL => s.canWrite s.regs.hl

/-- An 8-bit operand written (R110). -/
def State.setOperand (s : State) (o : Operand8) (v : Byte) : State :=
  match o with
  | .reg r => s.set8 r v
  | .atHL => s.poke s.regs.hl v

/-- The state after `n` reads at `a`, `a + 1`, ... -/
def State.afterReads : Nat → Word → State → State
  | 0, _, s => s
  | n + 1, a, s => State.afterReads n (a + 1) (s.afterRead a)

/-- The bytes `n` reads at `a`, `a + 1`, ... answer. -/
def State.bytesAt : Nat → Word → State → List Byte
  | 0, _, _ => []
  | n + 1, a, s => s.peek a :: State.bytesAt n (a + 1) (s.afterRead a)

/-- None of `n` reads at `a`, `a + 1`, ... faults. -/
def State.canReads (s : State) : Nat → Word → Bool
  | 0, _ => true
  | n + 1, a => s.canRead a && s.canReads n (a + 1)

/-- Both stores of a push do not fault. -/
def State.canPush (s : State) : Bool := s.canWrite (s.regs.sp - 1) && s.canWrite (s.regs.sp - 2)

/-- The memory and registers after `push16(v)`: the high byte at SP - 1, the low byte at SP - 2 (R260). -/
def State.pushed (s : State) (v : Word) : State :=
  ((s.poke (s.regs.sp - 1) (hiByte v)).poke (s.regs.sp - 2) (loByte v)).setSP (s.regs.sp - 2)

/-- Both reads of a pop do not fault. -/
def State.canPop (s : State) : Bool := s.canRead s.regs.sp && s.canRead (s.regs.sp + 1)

/-- The word `pop16()` answers: the low byte at SP, the high byte at SP + 1 (R260). -/
def State.popWord (s : State) : Word := joinBytes ((s.afterRead s.regs.sp).peek (s.regs.sp + 1)) (s.peek s.regs.sp)

/-- The state after `pop16()`. -/
def State.popped (s : State) : State := (s.afterReads 2 s.regs.sp).setSP (s.regs.sp + 2)

/-- R65, R66, R74, R75: a location whose read returns the last byte written to it. -/
def State.readsBack (s : State) (a : Word) : Bool :=
  match region a with
  | .cartFixed => false
  | .cartSwitchable => false
  | .vram => true
  | .cartRam => true
  | .wramFixed => true
  | .wramSwitchable => true
  | .echo => decide (s.params.echoPolicy ≠ .fault)
  | .oam => oamStored a
  | .io =>
    match ioReg a with
    | .storage => true
    | .tima => true
    | .tma => true
    | .lcdc => true
    | .joypad => false
    | .div => false
    | .tac => false
    | .ifReg => false
    | .stat => false
    | .ly => false
    | .boot => false
    | .dma => false
    | .unnamed => false
  | .hram => true
  | .ie => true

/-! ## Operand numbers (R110-R115) -/

/-- R110. -/
def operandIndex : Operand8 → Byte
  | .reg .b => 0
  | .reg .c => 1
  | .reg .d => 2
  | .reg .e => 3
  | .reg .h => 4
  | .reg .l => 5
  | .atHL => 6
  | .reg .a => 7

/-- R111. -/
def r16Index : R16 → Byte
  | .bc => 0
  | .de => 1
  | .hl => 2
  | .sp => 3

/-- R112. -/
def r16StkIndex : R16Stk → Byte
  | .bc => 0
  | .de => 1
  | .hl => 2
  | .af => 3

/-- R113. -/
def condIndex : Cond → Byte
  | .nz => 0
  | .z => 1
  | .nc => 2
  | .c => 3

/-- R115. -/
def rotIndex : RotOp → Byte
  | .rlc => 0
  | .rrc => 1
  | .rl => 2
  | .rr => 3
  | .sla => 4
  | .sra => 5
  | .swap => 6
  | .srl => 7

/-! ## What a store can change -/

/-- The address whose storage a byte of the bus is: under MIRROR the echo region's bytes are kept 0x2000 below (R67). -/
def State.home (s : State) (a : Word) : Word :=
  if region a = .echo then echoTarget s.params.echoPolicy a else a

/-- A write to `a` can change what a read of `b` returns: the same byte, or, for BOOT (R46), a byte under the boot-ROM
overlay (R64). -/
def State.touches (s : State) (a b : Word) : Bool :=
  decide (s.home a = s.home b) || (decide (a = 0xFF50) && decide (b.toNat < 0x100))

/-- Every byte no write of the list can have changed reads as before. A location whose read is a `draw()` (R74) is under
no law and is left out. -/
def SameBytesBut (writes : List Word) (s t : State) : Prop :=
  ∀ b, drawnAt b = false → (∀ a ∈ writes, s.touches a b = false) → t.peek b = s.peek b

/-- The CPU's hidden state and everything outside registers and memory is unchanged: IME, `ei_pending`, `run_state`,
`halt_bug`, the breakpoint, `break_hit`, the fault record, the ROM images, the parameters. -/
def SameControl (s t : State) : Prop :=
  t.ime = s.ime ∧ t.eiPending = s.eiPending ∧ t.runState = s.runState ∧ t.haltBug = s.haltBug ∧
  t.breakpoint = s.breakpoint ∧ t.breakHit = s.breakHit ∧ t.faults = s.faults ∧ t.bootRom = s.bootRom ∧
  t.cartRom = s.cartRom ∧ t.params = s.params ∧ t.opAddr = s.opAddr

/-- The registers on the bus and the devices are unchanged: IE, IF, LCDC, the boot latch, the timer, the scanline
controller, the storage I/O registers. -/
def SameDevices (s t : State) : Prop :=
  t.ie = s.ie ∧ t.iflag = s.iflag ∧ t.lcdc = s.lcdc ∧ t.bootRomMapped = s.bootRomMapped ∧ t.timer = s.timer ∧
  t.ppu = s.ppu ∧ t.io = s.io

/-- Memory, the devices and the control state are those of `s`; of a read only the `draw()` counter moved. -/
def OnlyRegisters (s t : State) : Prop := SameControl s t ∧ SameDevices s t ∧ t.ram = s.ram ∧ SameBytesBut [] s t

/-- R37-R50: the registers on the bus and the timer's hidden state, each unchanged unless its own address is stored to. -/
def SameDevicesBut (writes : List Word) (s t : State) : Prop :=
  (0xFFFF ∉ writes → t.ie = s.ie) ∧ (0xFF0F ∉ writes → t.iflag = s.iflag) ∧ (0xFF40 ∉ writes → t.lcdc = s.lcdc) ∧
  (0xFF50 ∉ writes → t.bootRomMapped = s.bootRomMapped) ∧
  (0xFF04 ∉ writes → t.timer.divCounter = s.timer.divCounter) ∧
  (0xFF05 ∉ writes → t.timer.tima = s.timer.tima ∧ t.timer.reloadArmed = s.timer.reloadArmed ∧
    t.timer.irqArmed = s.timer.irqArmed) ∧
  (0xFF06 ∉ writes → t.timer.tma = s.timer.tma) ∧ (0xFF07 ∉ writes → t.timer.tac = s.timer.tac) ∧
  t.timer.lastTap = s.timer.lastTap ∧ t.timer.ovfPending = s.timer.ovfPending ∧ t.timer.ovfStep = s.timer.ovfStep ∧
  ∀ b, b ∉ writes → t.io.read b.toNat = s.io.read b.toNat

/-- Memory but the bytes of `writes`, the control state, the scanline controller and every register on the bus that no
address of `writes` names are those of `s`. -/
def OnlyStores (writes : List Word) (s t : State) : Prop :=
  SameControl s t ∧ t.ppu = s.ppu ∧ SameDevicesBut writes s t ∧ SameBytesBut writes s t

/-- Every byte register outside `ds` is unchanged. -/
def SameRegsBut (ds : List R8) (s t : State) : Prop := ∀ r, r ∉ ds → t.regs.get8 r = s.regs.get8 r

/-- R21: the byte registers of a pair; SP has none. -/
def halves : R16 → List R8
  | .bc => [.b, .c]
  | .de => [.d, .e]
  | .hl => [.h, .l]
  | .sp => []

/-- R21: the byte registers of a stack pair; of AF, A. -/
def halvesStk : R16Stk → List R8
  | .bc => [.b, .c]
  | .de => [.d, .e]
  | .hl => [.h, .l]
  | .af => [.a]

/-! ## Results in exact arithmetic -/

/-- R281, R282 with R28, R30: the sum `a + v + c` computed exactly, then narrowed. -/
def sumResult (a v : Byte) (c : Nat) : Byte × Flags :=
  (BitVec.ofNat 8 (a.toNat + v.toNat + c),
    ⟨decide ((a.toNat + v.toNat + c) % 256 = 0), false, decide (15 < a.toNat % 16 + v.toNat % 16 + c),
      decide (255 < a.toNat + v.toNat + c)⟩)

/-- R283, R284 with R29, R31: the difference `a - v - c` computed exactly, then narrowed. -/
def diffResult (a v : Byte) (c : Nat) : Byte × Flags :=
  (BitVec.ofInt 8 ((a.toNat : Int) - v.toNat - c),
    ⟨decide (((a.toNat : Int) - v.toNat - c) % 256 = 0), true, decide (a.toNat % 16 < v.toNat % 16 + c),
      decide (a.toNat < v.toNat + c)⟩)

/-- R311-R318: the result and the carry out, by the bit vectors' own rotations and shifts. -/
def rotResult (op : RotOp) (v : Byte) (c : Bool) : Byte × Bool :=
  match op with
  | .rlc => (v.rotateLeft 1, v.msb)
  | .rrc => (v.rotateRight 1, v.getLsbD 0)
  | .rl => (v.extractLsb' 0 7 ++ BitVec.ofBool c, v.msb)
  | .rr => (BitVec.ofBool c ++ v.extractLsb' 1 7, v.getLsbD 0)
  | .sla => (v.extractLsb' 0 7 ++ 0#1, v.msb)
  | .sra => (v.sshiftRight 1, v.getLsbD 0)
  | .swap => (v.extractLsb' 0 4 ++ v.extractLsb' 4 4, false)
  | .srl => (0#1 ++ v.extractLsb' 1 7, v.getLsbD 0)

/-- R344's pseudocode: the correction, from the values before the instruction. -/
def daaCorrection (a : Nat) (f : Flags) : Nat :=
  (if f.c = true ∨ (f.n = false ∧ 0x99 < a) then 0x60 else 0) +
  (if f.h = true ∨ (f.n = false ∧ 9 < a % 16) then 0x06 else 0)

/-! ## The timer over many invocations (R430, R437) -/

/-- `n` invocations of the timing controller. -/
def Timer.run : Nat → Timer → Timer
  | 0, t => t
  | n + 1, t => Timer.run n t.invoke

/-- R42, R432: the period in invocations of a frequency select. -/
def timerPeriod (select : Nat) : Nat :=
  match select with
  | 0 => 1024
  | 1 => 16
  | 2 => 64
  | _ => 256

end Sys2Proof.Machine
end

