-- ==== Sys2Proof/Certificates/Slice0/Obligations.lean ====
section
/-! DEFINITION. The statements for the provers. Each formalises rules of `spec/` (its docstring names them) in the terms
of Safety.lean. -/

open Sys2Proof Sys2Proof.Machine

/-! ## Encoding -/

/-- R105, R106, R116-R121: words written out from the encoding decode to the instruction they stand for. -/
def Obligations.DecodeSampleWords : Prop :=
  decode [0x00] = .ok (.nop, []) ∧ decode [0x10, 0x55] = .ok (.stop 0x55, []) ∧
  decode [0x76] = .ok (.halt, []) ∧ decode [0xFB] = .ok (.ei, []) ∧
  decode [0x20, 0xFB] = .ok (.jr_nz_e8 0xFB, []) ∧ decode [0xCD, 0x00, 0x02] = .ok (.call_a16 0x0200, []) ∧
  decode [0xD9] = .ok (.reti, []) ∧ decode [0xDF] = .ok (.rst_18h, []) ∧
  decode [0x41] = .ok (.ld_b_c, []) ∧ decode [0x7E] = .ok (.ld_a_atHL, []) ∧
  decode [0x08, 0x34, 0x12] = .ok (.ld_atA16_sp 0x1234, []) ∧ decode [0x32] = .ok (.ld_atHLd_a, []) ∧
  decode [0xF1] = .ok (.pop_af, []) ∧ decode [0x35] = .ok (.dec_atHL, []) ∧ decode [0x3B] = .ok (.dec_sp, []) ∧
  decode [0x9E] = .ok (.sbc_a_atHL, []) ∧ decode [0xFE, 0x90] = .ok (.cp_d8 0x90, []) ∧
  decode [0x39] = .ok (.add_hl_sp, []) ∧ decode [0xE0, 0x46] = .ok (.ldh_atA8_a 0x46, []) ∧
  decode [0xE2] = .ok (.ld_atC_a, []) ∧ decode [0xCB, 0x37] = .ok (.swap_a, []) ∧
  decode [0xCB, 0x7C] = .ok (.bit_7_h, []) ∧ decode [0xCB, 0xCB] = .ok (.set_1_e, []) ∧
  decode [0x27] = .ok (.daa, []) ∧ decode [0xDD] = .ok (.illegalDD, [])

/-- R103-R106, R123: decoding the bytes of a well-formed instruction, whatever follows them, gives the instruction and
what follows. Every operand value is covered. -/
def Obligations.DecodeEncode : Prop :=
  ∀ (i : Instr) (rest : List Byte), i.wellFormed = true → decode (encode i ++ rest) = .ok (i, rest)

/-- R103, R104, R124: the decoder answers only well-formed instructions, and the bytes it consumed are the
instruction's encoding. -/
def Obligations.EncodeDecode : Prop :=
  ∀ (bytes rest : List Byte) (i : Instr), decode bytes = .ok (i, rest) →
    i.wellFormed = true ∧ bytes = encode i ++ rest

/-! ## The step -/

/-- R100-R102: when the CPU executes, the step is `exec` of the instruction the bytes at PC decode to, at the state
whose PC is past those bytes; around it come the EI delay, `break_hit` and the devices. An absent opcode is not refused
(R403). -/
def Obligations.StepRunsDecoded : Prop :=
  ∀ (s : State) (i : Instr) (rest : List Byte),
    s.stepKind = .execute → s.haltBug = false → decode (s.bytesAt 3 s.pc) = .ok (i, rest) →
    s.canReads (encode i).length s.pc = true →
    ((descriptor i).extended = false ∧ isAbsent (descriptor i).opcode = true ∨
      s.refuses (descriptor i).extended (descriptor i).opcode = false) →
    step s =
      andThen
        (exec i { s.afterReads (encode i).length s.pc with
          pc := s.pc + BitVec.ofNat 16 (encode i).length, opAddr := s.pc })
        fun t => .next (advanceDevices { t with
          ime := if s.eiPending = true ∧ t.eiPending = true then true else t.ime,
          eiPending := if s.eiPending = true ∧ t.eiPending = true then false else t.eiPending,
          breakHit := decide (t.breakpoint = some t.pc) })

/-- R101, R203: with the HALT bug pending the opcode byte is read without advancing PC, so the operand bytes start with
the opcode byte itself; the bug ends with the fetch. -/
def Obligations.HaltBugStep : Prop :=
  ∀ (s : State) (i : Instr) (rest : List Byte),
    s.stepKind = .execute → s.haltBug = true →
    decode (s.peek s.pc :: (s.afterRead s.pc).bytesAt 2 s.pc) = .ok (i, rest) →
    s.canReads ((encode i).length - 1) s.pc = true → s.canRead s.pc = true →
    ((descriptor i).extended = false ∧ isAbsent (descriptor i).opcode = true ∨
      s.refuses (descriptor i).extended (descriptor i).opcode = false) →
    step s =
      andThen
        (exec i { (s.afterRead s.pc).afterReads ((encode i).length - 1) s.pc with
          pc := s.pc + BitVec.ofNat 16 ((encode i).length - 1), haltBug := false, opAddr := s.pc })
        fun t => .next (advanceDevices { t with
          ime := if s.eiPending = true ∧ t.eiPending = true then true else t.ime,
          eiPending := if s.eiPending = true ∧ t.eiPending = true then false else t.eiPending,
          breakHit := decide (t.breakpoint = some t.pc) })

/-- R121, R402: the eleven absent bytes, each with its row. -/
def absentRows : List (Byte × Instr) :=
  [(0xD3, .illegalD3), (0xDB, .illegalDB), (0xDD, .illegalDD), (0xE3, .illegalE3), (0xE4, .illegalE4),
   (0xEB, .illegalEB), (0xEC, .illegalEC), (0xED, .illegalED), (0xF4, .illegalF4), (0xFC, .illegalFC),
   (0xFD, .illegalFD)]

/-- R101, R102, R121, R401: fetching an absent byte raises IllegalOpcode with (0, op, pc0), PC already past the byte (not advanced only
under the HALT bug, R101), and the CPU takes no further step. No other byte decodes to such a row;
the rows are the model's form of ABSENT (log 13), `opAddr` is its `pc0` (log 8), `draws` its free-input counter (log 3)
and `alreadyFaulted` its name for having no step (log 1). -/
def Obligations.AbsentOpcodeFaults : Prop :=
  (∀ r ∈ absentRows, ∀ rest, decode (r.1 :: rest) = .ok (r.2, rest)) ∧
  (∀ op : Byte, isAbsent op = true ↔ op ∈ absentRows.map Prod.fst) ∧
  (∀ r ∈ absentRows, ∀ s : State,
    exec r.2 s = .fault (.illegalOpcode { s with faults := .illegalOpcode false r.1 s.opAddr :: s.faults })) ∧
  ∀ s : State, s.stepKind = .execute → s.canRead s.pc = true → s.peek s.pc ∈ absentRows.map Prod.fst →
    ∃ left, step s = .fault (.illegalOpcode left) ∧
      left = { s.afterRead s.pc with
        pc := if s.haltBug then s.pc else s.pc + 1, haltBug := false, opAddr := s.pc,
        faults := .illegalOpcode false (s.peek s.pc) s.pc :: s.faults } ∧
      step left = .fault (.alreadyFaulted left)

/-- R102, R400 (code 2), R401: an opcode in REFUSED_OPCODES raises RefusedOpcode after its opcode bytes and before its
operands. The absent bytes are checked first (R403). -/
def Obligations.RefusedOpcodeFaults : Prop :=
  (∀ s : State, s.stepKind = .execute → s.canRead s.pc = true → s.peek s.pc ≠ 0xCB →
    isAbsent (s.peek s.pc) = false → (false, s.peek s.pc) ∈ s.params.refusedOpcodes →
    step s = .fault (.refusedOpcode { s.afterRead s.pc with
      pc := if s.haltBug then s.pc else s.pc + 1, haltBug := false, opAddr := s.pc,
      faults := .refusedOpcode false (s.peek s.pc) s.pc :: s.faults })) ∧
  ∀ (s : State) (op : Byte), s.stepKind = .execute → s.haltBug = false → s.canReads 2 s.pc = true →
    s.bytesAt 2 s.pc = [0xCB, op] → (true, op) ∈ s.params.refusedOpcodes →
    step s = .fault (.refusedOpcode { s.afterReads 2 s.pc with
      pc := s.pc + 2, opAddr := s.pc, faults := .refusedOpcode true op s.pc :: s.faults })

/-- R100, R201, R401, R414: the steps that run no instruction. A faulted machine and a STOPPED one have none (the model
says so by a fault of its own name, logs 1, 2); a HALTED
one waits one cycle, and leaves HALTED when an enabled request is pending, whatever IME. -/
def Obligations.StepsWithoutInstruction : Prop :=
  (∀ s : State, s.faults ≠ [] → step s = .fault (.alreadyFaulted s)) ∧
  (∀ s : State, s.faults = [] → s.runState = .stopped → step s = .fault (.stuckStopped s)) ∧
  ∀ s : State, s.faults = [] → s.runState = .halted →
    step s = .next (advanceDevices { s with
      runState := if s.ie.extractLsb' 0 5 &&& s.iflag = 0 then .halted else .running, stepCycles := 1 })

/-- R411, R412: with IME 1 the enabled request of lowest number k is dispatched: IME, `ei_pending` and that request are
cleared, PC is pushed, high byte first, and PC becomes 0x0040 + 8k, in 5 cycles; nothing else changes and the other
requests stay. With SP 0x0000 or 0x0001 it faults before any change. -/
def Obligations.InterruptDispatch : Prop :=
  ∀ (s : State) (k : Fin 5), s.faults = [] → s.runState = .running → s.ime = true →
    (s.ie.getLsbD k.val && s.iflag.getLsbD k.val) = true →
    (∀ j : Fin 5, j < k → (s.ie.getLsbD j.val && s.iflag.getLsbD j.val) = false) →
    (s.regs.sp ≠ 0x0000 → s.regs.sp ≠ 0x0001 →
      s.canWrite (s.regs.sp - 1) = true → s.canWrite (s.regs.sp - 2) = true →
      step s = .next (advanceDevices
        { (State.poke (State.poke { s with ime := false, eiPending := false, iflag := s.iflag &&& ~~~(1#5 <<< k.val) }
            (s.regs.sp - 1) (s.pc.extractLsb' 8 8)) (s.regs.sp - 2) (s.pc.extractLsb' 0 8)) with
          regs := { s.regs with sp := s.regs.sp - 2 }, pc := BitVec.ofNat 16 (0x0040 + 8 * k.val), stepCycles := 5 })) ∧
    (s.regs.sp = 0x0000 ∨ s.regs.sp = 0x0001 →
      step s = .fault (.dispatchPushToIE { s with faults := .dispatchPushToIE s.regs.sp :: s.faults }))

/-- R34, R100, R204, R205, R219: IME becomes 1 after the instruction that follows EI, whichever it is, unless it clears
`ei_pending`: DI leaves IME 0 and RETI sets it itself. EI after EI leaves IME 1 after the second. With no EI pending only
EI, DI and RETI touch either bit. EI, NOP and DI always answer a state. -/
def Obligations.EiDelay : Prop :=
  (∀ (s t : State) (i : Instr) (rest : List Byte), s.stepKind = .execute → s.haltBug = false →
    decode (s.bytesAt 3 s.pc) = .ok (i, rest) → step s = .next t →
    (i = .di → t.ime = false ∧ t.eiPending = false) ∧
    (i = .reti → t.ime = true ∧ t.eiPending = false) ∧
    (i ≠ .di → i ≠ .reti → s.eiPending = true → t.ime = true ∧ t.eiPending = false) ∧
    (i ≠ .di → i ≠ .reti → s.eiPending = false → t.ime = s.ime ∧ t.eiPending = decide (i = .ei))) ∧
  ∀ s : State, s.stepKind = .execute → s.haltBug = false → s.canRead s.pc = true → s.params.refusedOpcodes = [] →
    (s.peek s.pc = 0xFB → s.eiPending = false →
      ∃ t, step s = .next t ∧ t.eiPending = true ∧ t.ime = s.ime ∧ t.pc = s.pc + 1) ∧
    (s.peek s.pc = 0xFB → s.eiPending = true →
      ∃ t, step s = .next t ∧ t.eiPending = false ∧ t.ime = true ∧ t.pc = s.pc + 1) ∧
    (s.peek s.pc = 0x00 → s.eiPending = true → ∃ t, step s = .next t ∧ t.eiPending = false ∧ t.ime = true) ∧
    (s.peek s.pc = 0xF3 → ∃ t, step s = .next t ∧ t.eiPending = false ∧ t.ime = false)

/-! ## Reset and invariants -/

/-- R500-R502: every piece of state the spec gives a reset value, right after reset, in both launch modes. The stored
bytes of the joypad register and of STAT, which the spec gives none, are left to LaunchInvariants. -/
def Obligations.ResetValues : Prop :=
  (∀ k : Launch, k.startMode = .boot →
    (State.launch k).regs = k.initRegs ∧ (State.launch k).pc = 0x0000 ∧ (State.launch k).bootRomMapped = true ∧
    (State.launch k).iflag = 0 ∧ (State.launch k).lcdc = 0x00 ∧ (State.launch k).timer.divCounter = 0x0000 ∧
    (∀ a, a ≠ 0xFF00 → a ≠ 0xFF41 → (State.launch k).io.read a = 0x00)) ∧
  (∀ k : Launch, k.startMode = .postBoot →
    (State.launch k).regs.af = 0x01B0 ∧ (State.launch k).regs.bc = 0x0013 ∧ (State.launch k).regs.de = 0x00D8 ∧
    (State.launch k).regs.hl = 0x014D ∧ (State.launch k).regs.sp = 0xFFFE ∧ (State.launch k).pc = 0x0100 ∧
    (State.launch k).bootRomMapped = false ∧ (State.launch k).iflag = 0x01 ∧ (State.launch k).lcdc = 0x91 ∧
    (State.launch k).timer.divCounter = 0xABCC ∧
    (∀ a, a ≠ 0xFF00 → a ≠ 0xFF41 → (State.launch k).io.read a = if a = 0xFF47 then 0xFC else 0x00)) ∧
  ∀ k : Launch,
    (State.launch k).regs.f.toByte &&& 0x0F = 0 ∧ (State.launch k).ime = false ∧ (State.launch k).eiPending = false ∧
    (State.launch k).haltBug = false ∧ (State.launch k).runState = .running ∧ (State.launch k).ie = 0x00 ∧
    (State.launch k).timer.tima = 0 ∧ (State.launch k).timer.tma = 0 ∧ (State.launch k).timer.tac = 0 ∧
    (State.launch k).timer.lastTap = false ∧ (State.launch k).timer.ovfPending = false ∧
    (State.launch k).timer.ovfStep = 0 ∧ (State.launch k).timer.reloadArmed = false ∧
    (State.launch k).timer.irqArmed = false ∧ (State.launch k).ppu.dot = 0 ∧ (State.launch k).ppu.line = 0 ∧
    (State.launch k).ppu.mode = .oamSearch ∧ (State.launch k).ppu.phase = .readTileId ∧
    (State.launch k).ppu.fetchDiv = false ∧ (State.launch k).ppu.col = 0 ∧ (State.launch k).ppu.tileId = 0 ∧
    (State.launch k).ppu.lo = 0 ∧ (State.launch k).ppu.hi = 0 ∧ (State.launch k).ppu.queue = [] ∧
    (State.launch k).ppu.pixelsOut = [] ∧ (State.launch k).breakHit = false ∧ (State.launch k).faults = [] ∧
    (State.launch k).ram = k.initMem ∧ (State.launch k).bootRom = k.bootRom ∧ (State.launch k).cartRom = k.cartRom ∧
    (State.launch k).breakpoint = k.breakpoint ∧ (State.launch k).params = k.params

/-- R501, R503: a launch that meets its premises starts in a state that meets every invariant below; so does
`State.reset`, whose registers, RAM and ROM images are the model's choice (logs 4, 5, 6). The stored bytes of the joypad
register and of STAT are 0x00 after every launch, the model's choice too (log 9). -/
def Obligations.LaunchInvariants : Prop :=
  (∀ k : Launch, k.wf = true →
    (State.launch k).memoryWf = true ∧ (State.launch k).devicesWf = true ∧ (State.launch k).haltBugWf = true) ∧
  State.reset.memoryWf = true ∧ State.reset.devicesWf = true ∧ State.reset.haltBugWf = true ∧
  ∀ k : Launch, (State.launch k).io.read 0xFF00 = 0x00 ∧ (State.launch k).io.read 0xFF41 = 0x00

/-- R54, R64-R68: every step keeps the stores canonical and their cells where bytes are kept. -/
def Obligations.StepKeepsMemory : Prop :=
  ∀ s t : State, s.memoryWf = true → step s = .next t → t.memoryWf = true

/-- R431, R434, R435, R442, R443, R448: every step keeps the devices' invariant: the latches armed only inside an
overflow window, dot and line in range, the mode that of the line and dot, the pixel queue bounded. -/
def Obligations.StepKeepsDevices : Prop :=
  ∀ s t : State, s.devicesWf = true → step s = .next t → t.devicesWf = true

/-- R101, R202, R203: after every step a pending HALT bug is met by a running CPU with IME 0 and no EI pending, so the
very next step fetches with it. -/
def Obligations.StepKeepsHaltBug : Prop :=
  ∀ s t : State, s.haltBugWf = true → step s = .next t → t.haltBugWf = true

/-- R8, R46, R52-R54: what no step changes: the parameters, both ROM images, the breakpoint, the fault record of a step
that answers a state; and the boot ROM, once unmapped, stays so. -/
def Obligations.StepKeepsConstants : Prop :=
  ∀ s t : State, step s = .next t →
    t.params = s.params ∧ t.bootRom = s.bootRom ∧ t.cartRom = s.cartRom ∧ t.breakpoint = s.breakpoint ∧
    t.faults = s.faults ∧ (s.bootRomMapped = false → t.bootRomMapped = false)

/-- R401: a step of a live machine that faults adds one fault to the record, leaves the scanline controller and
`break_hit` as they were, and the machine then takes no further step. -/
def Obligations.FaultEndsStep : Prop :=
  ∀ (s : State) (f : Fault), s.faults = [] → s.runState ≠ .stopped → step s = .fault f →
    ∃ (r : FaultRecord) (left : State), f = faultOf r left ∧ left.faults = [r] ∧ left.ppu = s.ppu ∧
      left.breakHit = s.breakHit ∧ left.bootRom = s.bootRom ∧ left.cartRom = s.cartRom ∧ left.params = s.params ∧
      step left = .fault (.alreadyFaulted left)

/-! ## Memory -/

/-- R62, R63: the eleven regions, by their bounds; every address is in exactly one. -/
def Obligations.RegionTable : Prop :=
  ∀ a : Word,
    (region a = .cartFixed ↔ a.toNat ≤ 0x3FFF) ∧ (region a = .cartSwitchable ↔ 0x4000 ≤ a.toNat ∧ a.toNat ≤ 0x7FFF) ∧
    (region a = .vram ↔ 0x8000 ≤ a.toNat ∧ a.toNat ≤ 0x9FFF) ∧
    (region a = .cartRam ↔ 0xA000 ≤ a.toNat ∧ a.toNat ≤ 0xBFFF) ∧
    (region a = .wramFixed ↔ 0xC000 ≤ a.toNat ∧ a.toNat ≤ 0xCFFF) ∧
    (region a = .wramSwitchable ↔ 0xD000 ≤ a.toNat ∧ a.toNat ≤ 0xDFFF) ∧
    (region a = .echo ↔ 0xE000 ≤ a.toNat ∧ a.toNat ≤ 0xFDFF) ∧ (region a = .oam ↔ 0xFE00 ≤ a.toNat ∧ a.toNat ≤ 0xFEFF) ∧
    (region a = .io ↔ 0xFF00 ≤ a.toNat ∧ a.toNat ≤ 0xFF7F) ∧ (region a = .hram ↔ 0xFF80 ≤ a.toNat ∧ a.toNat ≤ 0xFFFE) ∧
    (region a = .ie ↔ a.toNat = 0xFFFF)

/-- R64, R65, R66: below 0x8000 a read returns BOOT_ROM under the overlay and CART_ROM elsewhere, and a write is
discarded. -/
def Obligations.RomAndBootOverlay : Prop :=
  ∀ (s : State) (a : Word) (v : Byte), a.toNat < 0x8000 →
    memRead a s = .next (if s.bootRomMapped = true ∧ a.toNat < 0x0100 then s.bootRom.read a.toNat
      else s.cartRom.read a.toNat, s) ∧
    memWrite a v s = .next s

/-- R65, R66, R75: a byte written to storage is the byte a read then returns. -/
def Obligations.ReadAfterWrite : Prop :=
  ∀ (s : State) (a : Word) (v : Byte), s.readsBack a = true →
    ∃ t, memWrite a v s = .next t ∧ memRead a t = .next (v, t)

/-- R65, R66, R74: a read changes nothing (it takes at most one `draw()` input); a write changes no register, nothing of
the CPU, no ROM and no scanline state, and no other byte. -/
def Obligations.AccessFrame : Prop :=
  (∀ (s t : State) (a : Word) (v : Byte), memRead a s = .next (v, t) →
    t = { s with draws := if drawnAt a then s.draws + 1 else s.draws }) ∧
  ∀ (s t : State) (a : Word) (v : Byte), memWrite a v s = .next t →
    OnlyStores [a] s t ∧ t.regs = s.regs ∧ t.pc = s.pc ∧ t.draws = s.draws

/-- R67: the three policies of the echo region. -/
def Obligations.EchoPolicies : Prop :=
  ∀ (s : State) (a : Word) (v : Byte), 0xE000 ≤ a.toNat → a.toNat ≤ 0xFDFF →
    (s.params.echoPolicy = .mirror →
      memRead a s = memRead (a - 0x2000) s ∧ memWrite a v s = memWrite (a - 0x2000) v s ∧
      0xC000 ≤ (a - 0x2000).toNat ∧ (a - 0x2000).toNat ≤ 0xDDFF) ∧
    (s.params.echoPolicy = .flat →
      memRead a s = .next (s.ram.read a.toNat, s) ∧ memWrite a v s = .next { s with ram := s.ram.write a.toNat v }) ∧
    (s.params.echoPolicy = .fault →
      memRead a s = .fault (.restrictedAccess { s with faults := .restrictedAccess a :: s.faults }) ∧
      memWrite a v s = .fault (.restrictedAccess { s with faults := .restrictedAccess a :: s.faults }))

/-- R49, R68: the unusable tail of the OAM page and the unnamed I/O offsets: a read returns the next `draw()` input, which the
model keeps as an opaque constant at a counter the read advances (log 3), a write is discarded. -/
def Obligations.UnusableLocations : Prop :=
  ∀ (s : State) (a : Word) (v : Byte),
    (0xFEA0 ≤ a.toNat ∧ a.toNat ≤ 0xFEFF ∨ a.toNat = 0xFF03 ∨ 0xFF08 ≤ a.toNat ∧ a.toNat ≤ 0xFF0E ∨
      0xFF27 ≤ a.toNat ∧ a.toNat ≤ 0xFF2F ∨ 0xFF4C ≤ a.toNat ∧ a.toNat ≤ 0xFF4E ∨
      0xFF56 ≤ a.toNat ∧ a.toNat ≤ 0xFF67 ∨ 0xFF6A ≤ a.toNat ∧ a.toNat ≤ 0xFF6F ∨
      0xFF71 ≤ a.toNat ∧ a.toNat ≤ 0xFF7F) →
    memRead a s = .next (Config.draw s.draws, { s with draws := s.draws + 1 }) ∧ memWrite a v s = .next s

/-- R48: the DMA registers: a read returns `draw()`, in the model an opaque constant at a counter the read advances
(log 3), a write raises UnmodelledDevice with the address. -/
def Obligations.DmaRegisters : Prop :=
  ∀ (s : State) (a : Word) (v : Byte), (a.toNat = 0xFF46 ∨ 0xFF51 ≤ a.toNat ∧ a.toNat ≤ 0xFF55) →
    memRead a s = .next (Config.draw s.draws, { s with draws := s.draws + 1 }) ∧
    memWrite a v s = .fault (.unmodelledDevice { s with faults := .unmodelledDevice a :: s.faults })

/-- R39-R42, R433, R435: reads and writes of DIV, TIMA, TMA and TAC. -/
def Obligations.TimerRegisters : Prop :=
  ∀ (s : State) (v : Byte),
    memRead 0xFF04 s = .next (s.timer.divCounter.extractLsb' 8 8, s) ∧
    memWrite 0xFF04 v s = .next { s with timer := { s.timer with divCounter := 0 } } ∧
    memRead 0xFF05 s = .next (s.timer.tima, s) ∧
    (s.timer.ovfPending = false → memWrite 0xFF05 v s = .next { s with timer := { s.timer with tima := v } }) ∧
    (s.timer.ovfPending = true → s.timer.ovfStep.val < 3 →
      memWrite 0xFF05 v s =
        .next { s with timer := { s.timer with tima := v, irqArmed := false, reloadArmed := false } }) ∧
    (s.timer.ovfPending = true → 3 ≤ s.timer.ovfStep.val →
      memWrite 0xFF05 v s = .next { s with timer := { s.timer with tima := v, irqArmed := false } }) ∧
    memRead 0xFF06 s = .next (s.timer.tma, s) ∧
    memWrite 0xFF06 v s = .next { s with timer := { s.timer with tma := v } } ∧
    memRead 0xFF07 s =
      .next ((Config.draw s.draws &&& 0xF8) ||| s.timer.tac.setWidth 8, { s with draws := s.draws + 1 }) ∧
    memWrite 0xFF07 v s = .next { s with timer := { s.timer with tac := v.setWidth 3 } }

/-- R37, R38, R43-R47: reads and writes of IE, IF, LCDC, STAT, LY, BOOT and the joypad register. -/
def Obligations.ControlRegisters : Prop :=
  ∀ (s : State) (v : Byte),
    memRead 0xFFFF s = .next (s.ie, s) ∧ memWrite 0xFFFF v s = .next { s with ie := v } ∧
    memRead 0xFF0F s =
      .next ((Config.draw s.draws &&& 0xE0) ||| s.iflag.setWidth 8, { s with draws := s.draws + 1 }) ∧
    memWrite 0xFF0F v s = .next { s with iflag := v.setWidth 5 } ∧
    memRead 0xFF40 s = .next (s.lcdc, s) ∧ memWrite 0xFF40 v s = .next { s with lcdc := v } ∧
    memRead 0xFF41 s = .next (Config.draw s.draws, { s with draws := s.draws + 1 }) ∧
    memWrite 0xFF41 v s = .next { s with io := s.io.write 0xFF41 v } ∧
    memRead 0xFF44 s = .next (s.ppu.line, s) ∧ memWrite 0xFF44 v s = .next s ∧
    memRead 0xFF50 s = .next (Config.draw s.draws, { s with draws := s.draws + 1 }) ∧
    memWrite 0xFF50 v s = .next { s with bootRomMapped := s.bootRomMapped && decide (v = 0) } ∧
    memRead 0xFF00 s = .next (Config.draw s.draws, { s with draws := s.draws + 1 }) ∧
    memWrite 0xFF00 v s = .next { s with io := s.io.write 0xFF00 v }

/-- R61: the bus primitive fails exactly when address + length exceeds 0x10000; the CPU's one-byte accesses never
fail and are MemRead and MemWrite. -/
def Obligations.BusPrimitive : Prop :=
  (∀ (s : State) (addr length : Nat), busRead addr length s = .outOfRange ↔ 0x10000 < addr + length) ∧
  (∀ (s : State) (addr : Nat) (bytes : List Byte), busWrite addr bytes s = .outOfRange ↔ 0x10000 < addr + bytes.length) ∧
  (∀ (s : State) (a : Word),
    busRead a.toNat 1 s = .ok (andThen (memRead a s) fun (v, t) => .next ([v], t))) ∧
  ∀ (s : State) (a : Word) (v : Byte), busWrite a.toNat [v] s = .ok (memWrite a v s)

/-- R20, R21, R22: a byte register and its pair are the same storage; F has four bits. -/
def Obligations.ByteViews : Prop :=
  (∀ r : Regs, r.bc = r.b ++ r.c ∧ r.de = r.d ++ r.e ∧ r.hl = r.h ++ r.l ∧ r.af = r.a ++ r.f.toByte) ∧
  (∀ (r : Regs) (x y : R8) (v : Byte), (r.set8 x v).get8 y = if y = x then v else r.get8 y) ∧
  (∀ (r : Regs) (x : R8) (v : Byte), (r.set8 x v).f = r.f ∧ (r.set8 x v).sp = r.sp) ∧
  (∀ (r : Regs) (x y : R16) (v : Word), (r.set16 x v).get16 y = if y = x then v else r.get16 y) ∧
  (∀ (r : Regs) (v : Word), (r.setBC v).b = v.extractLsb' 8 8 ∧ (r.setBC v).c = v.extractLsb' 0 8) ∧
  (∀ v : Byte, (Flags.ofByte v).toByte = v &&& 0xF0) ∧
  ∀ (r : Regs) (v : Word), (r.setAF v).af = v &&& 0xFFF0

/-! ## Control instructions -/

/-- R200-R205: NOP changes nothing; STOP, whatever its operand byte, stops the CPU for good; DI clears IME and
`ei_pending` at once; EI sets `ei_pending`; HALT has four cases and faults only in the last of them, when EI was the
instruction before it and a request is pending. -/
def Obligations.NopStopHaltDiEi : Prop :=
  encode .nop = [0x00] ∧ encode .di = [0xF3] ∧ encode .ei = [0xFB] ∧ (∀ n, encode (.stop n) = [0x10, n]) ∧
  encode .halt = [0x76] ∧
  ∀ s : State,
    exec .nop s = .next { s with stepCycles := 1 } ∧
    (∀ n, exec (.stop n) s = .next { s with runState := .stopped, stepCycles := 1 }) ∧
    exec .di s = .next { s with ime := false, eiPending := false, stepCycles := 1 } ∧
    exec .ei s = .next { s with eiPending := true, stepCycles := 1 } ∧
    (s.ie.extractLsb' 0 5 &&& s.iflag = 0 → exec .halt s = .next { s with runState := .halted, stepCycles := 1 }) ∧
    (s.ie.extractLsb' 0 5 &&& s.iflag ≠ 0 → s.ime = true → exec .halt s = .next { s with stepCycles := 1 }) ∧
    (s.ie.extractLsb' 0 5 &&& s.iflag ≠ 0 → s.ime = false → s.eiPending = false →
      exec .halt s = .next { s with haltBug := true, stepCycles := 1 }) ∧
    (s.ie.extractLsb' 0 5 &&& s.iflag ≠ 0 → s.ime = false → s.eiPending = true →
      exec .halt s = .fault (.unmodelledHaltBug { s with faults := .unmodelledHaltBug s.pc :: s.faults }))

/-- R113, R210-R214: the jumps. PC is the address of the next instruction when they execute. -/
def Obligations.Jumps : Prop :=
  (∀ n, encode (.jr_e8 n) = [0x18, n]) ∧ (∀ cc n, encode (rowJrCond cc n) = [0x20 + 8 * condIndex cc, n]) ∧
  (∀ a, encode (.jp_a16 a) = [0xC3, a.extractLsb' 0 8, a.extractLsb' 8 8]) ∧
  (∀ cc a, encode (rowJpCond cc a) = [0xC2 + 8 * condIndex cc, a.extractLsb' 0 8, a.extractLsb' 8 8]) ∧
  encode .jp_hl = [0xE9] ∧
  (∀ f : Flags, condHolds .nz f = !f.z ∧ condHolds .z f = f.z ∧ condHolds .nc f = !f.c ∧ condHolds .c f = f.c) ∧
  ∀ s : State,
    (∀ n, exec (.jr_e8 n) s = .next { s with pc := s.pc + n.signExtend 16, stepCycles := 3 }) ∧
    (∀ cc n, exec (rowJrCond cc n) s =
      .next (if condHolds cc s.regs.f then { s with pc := s.pc + n.signExtend 16, stepCycles := 3 }
        else { s with stepCycles := 2 })) ∧
    (∀ a, exec (.jp_a16 a) s = .next { s with pc := a, stepCycles := 4 }) ∧
    (∀ cc a, exec (rowJpCond cc a) s =
      .next (if condHolds cc s.regs.f then { s with pc := a, stepCycles := 4 } else { s with stepCycles := 3 })) ∧
    exec .jp_hl s = .next { s with pc := s.regs.hl, stepCycles := 1 }

/-- R215, R216, R220, R260, R401: CALL, CALL cc and RST push PC, high byte first, and jump; a call not taken touches no
stack. A push that cannot be made faults with the fault of the write that failed, SP already moved for it, the first byte
stored if it was the second that failed, and no jump: R260 and R401 over the call rules' own "Exceptions: none" (log 21). -/
def Obligations.CallsAndRestarts : Prop :=
  (∀ a, encode (.call_a16 a) = [0xCD, a.extractLsb' 0 8, a.extractLsb' 8 8]) ∧
  (∀ cc a, encode (rowCallCond cc a) = [0xC4 + 8 * condIndex cc, a.extractLsb' 0 8, a.extractLsb' 8 8]) ∧
  (∀ y : Fin 8, encode (rowRst y) = [BitVec.ofNat 8 (0xC7 + 8 * y.val)]) ∧
  (∀ (s : State) (cc : Cond) (a : Word), condHolds cc s.regs.f = false →
    exec (rowCallCond cc a) s = .next { s with stepCycles := 3 }) ∧
  (∀ s : State, s.canWrite (s.regs.sp - 1) = true → s.canWrite (s.regs.sp - 2) = true →
    (∀ a, exec (.call_a16 a) s =
      .next { (s.poke (s.regs.sp - 1) (s.pc.extractLsb' 8 8)).poke (s.regs.sp - 2) (s.pc.extractLsb' 0 8) with
        regs := { s.regs with sp := s.regs.sp - 2 }, pc := a, stepCycles := 6 }) ∧
    (∀ cc a, condHolds cc s.regs.f = true → exec (rowCallCond cc a) s =
      .next { (s.poke (s.regs.sp - 1) (s.pc.extractLsb' 8 8)).poke (s.regs.sp - 2) (s.pc.extractLsb' 0 8) with
        regs := { s.regs with sp := s.regs.sp - 2 }, pc := a, stepCycles := 6 }) ∧
    ∀ y : Fin 8, exec (rowRst y) s =
      .next { (s.poke (s.regs.sp - 1) (s.pc.extractLsb' 8 8)).poke (s.regs.sp - 2) (s.pc.extractLsb' 0 8) with
        regs := { s.regs with sp := s.regs.sp - 2 }, pc := BitVec.ofNat 16 (8 * y.val), stepCycles := 4 }) ∧
  ∀ (s : State) (i : Instr),
    ((∃ a, i = .call_a16 a) ∨ (∃ cc a, i = rowCallCond cc a ∧ condHolds cc s.regs.f = true) ∨ ∃ y, i = rowRst y) →
    (∀ f, memWrite (s.regs.sp - 1) (s.pc.extractLsb' 8 8) (s.setSP (s.regs.sp - 1)) = .fault f →
      exec i s = .fault f) ∧
    ∀ f, s.canWrite (s.regs.sp - 1) = true →
      memWrite (s.regs.sp - 2) (s.pc.extractLsb' 0 8)
        ((s.poke (s.regs.sp - 1) (s.pc.extractLsb' 8 8)).setSP (s.regs.sp - 2)) = .fault f →
      exec i s = .fault f

/-- R217-R219, R260, R415: RET, RET cc and RETI pop PC, the low byte at SP; RETI sets IME at once. -/
def Obligations.Returns : Prop :=
  encode .ret = [0xC9] ∧ (∀ cc, encode (rowRetCond cc) = [0xC0 + 8 * condIndex cc]) ∧ encode .reti = [0xD9] ∧
  (∀ (s : State) (cc : Cond), condHolds cc s.regs.f = false →
    exec (rowRetCond cc) s = .next { s with stepCycles := 2 }) ∧
  ∀ s : State, s.canRead s.regs.sp = true → s.canRead (s.regs.sp + 1) = true →
    exec .ret s = .next { (s.afterRead s.regs.sp).afterRead (s.regs.sp + 1) with
      regs := { s.regs with sp := s.regs.sp + 2 },
      pc := (s.afterRead s.regs.sp).peek (s.regs.sp + 1) ++ s.peek s.regs.sp, stepCycles := 4 } ∧
    (∀ cc, condHolds cc s.regs.f = true →
      exec (rowRetCond cc) s = .next { (s.afterRead s.regs.sp).afterRead (s.regs.sp + 1) with
        regs := { s.regs with sp := s.regs.sp + 2 },
        pc := (s.afterRead s.regs.sp).peek (s.regs.sp + 1) ++ s.peek s.regs.sp, stepCycles := 5 }) ∧
    exec .reti s = .next { (s.afterRead s.regs.sp).afterRead (s.regs.sp + 1) with
      regs := { s.regs with sp := s.regs.sp + 2 },
      pc := (s.afterRead s.regs.sp).peek (s.regs.sp + 1) ++ s.peek s.regs.sp,
      ime := true, eiPending := false, stepCycles := 4 }

/-! ## Loads, stores and the stack -/

/-- R230-R234: the 8-bit loads between registers, the byte at HL and an immediate. A store that cannot be made faults
with the write's own fault, the only exceptions of these rows: a DMA register, or the echo region under FAULT. -/
def Obligations.LoadByte : Prop :=
  (∀ dst src, (dst = .atHL → src ≠ .atHL) →
    encode (rowLd8 dst src) = [0x40 + 8 * operandIndex dst + operandIndex src]) ∧
  (∀ dst n, encode (rowLdImm8 dst n) = [0x06 + 8 * operandIndex dst, n]) ∧
  ∀ (s : State) (x y : R8) (n : Byte),
    exec (rowLd8 (.reg x) (.reg y)) s = .next { s with regs := s.regs.set8 x (s.regs.get8 y), stepCycles := 1 } ∧
    (s.canRead s.regs.hl = true → exec (rowLd8 (.reg x) .atHL) s =
      .next { s.afterRead s.regs.hl with regs := s.regs.set8 x (s.peek s.regs.hl), stepCycles := 2 }) ∧
    (s.canWrite s.regs.hl = true → exec (rowLd8 .atHL (.reg y)) s =
      .next { s.poke s.regs.hl (s.regs.get8 y) with stepCycles := 2 }) ∧
    exec (rowLdImm8 (.reg x) n) s = .next { s with regs := s.regs.set8 x n, stepCycles := 2 } ∧
    (s.canWrite s.regs.hl = true → exec (rowLdImm8 .atHL n) s = .next { s.poke s.regs.hl n with stepCycles := 3 }) ∧
    (∀ f, memWrite s.regs.hl (s.regs.get8 y) s = .fault f → exec (rowLd8 .atHL (.reg y)) s = .fault f) ∧
    (∀ f, memWrite s.regs.hl n s = .fault f → exec (rowLdImm8 .atHL n) s = .fault f) ∧
    (s.canWrite s.regs.hl = true ∨ ∃ f, ∀ v, memWrite s.regs.hl v s = .fault f ∧
      (f = .unmodelledDevice { s with faults := .unmodelledDevice s.regs.hl :: s.faults } ∧
          (s.regs.hl.toNat = 0xFF46 ∨ 0xFF51 ≤ s.regs.hl.toNat ∧ s.regs.hl.toNat ≤ 0xFF55) ∨
        f = .restrictedAccess { s with faults := .restrictedAccess s.regs.hl :: s.faults } ∧
          0xE000 ≤ s.regs.hl.toNat ∧ s.regs.hl.toNat ≤ 0xFDFF ∧ s.params.echoPolicy = .fault))

/-- R235-R240: the accumulator loads and stores through BC, DE and HL; HL moves by one after a (HL+) or (HL-) access,
and a store that faults leaves it. -/
def Obligations.LoadIndirect : Prop :=
  encode .ld_atBC_a = [0x02] ∧ encode .ld_atDE_a = [0x12] ∧ encode .ld_atHLi_a = [0x22] ∧ encode .ld_atHLd_a = [0x32] ∧
  encode .ld_a_atBC = [0x0A] ∧ encode .ld_a_atDE = [0x1A] ∧ encode .ld_a_atHLi = [0x2A] ∧ encode .ld_a_atHLd = [0x3A] ∧
  ∀ s : State,
    (s.canWrite s.regs.bc = true → exec .ld_atBC_a s = .next { s.poke s.regs.bc s.regs.a with stepCycles := 2 }) ∧
    (s.canWrite s.regs.de = true → exec .ld_atDE_a s = .next { s.poke s.regs.de s.regs.a with stepCycles := 2 }) ∧
    (s.canWrite s.regs.hl = true → exec .ld_atHLi_a s =
      .next { s.poke s.regs.hl s.regs.a with regs := s.regs.setHL (s.regs.hl + 1), stepCycles := 2 }) ∧
    (s.canWrite s.regs.hl = true → exec .ld_atHLd_a s =
      .next { s.poke s.regs.hl s.regs.a with regs := s.regs.setHL (s.regs.hl - 1), stepCycles := 2 }) ∧
    (s.canRead s.regs.bc = true → exec .ld_a_atBC s =
      .next { s.afterRead s.regs.bc with regs := { s.regs with a := s.peek s.regs.bc }, stepCycles := 2 }) ∧
    (s.canRead s.regs.de = true → exec .ld_a_atDE s =
      .next { s.afterRead s.regs.de with regs := { s.regs with a := s.peek s.regs.de }, stepCycles := 2 }) ∧
    (s.canRead s.regs.hl = true → exec .ld_a_atHLi s =
      .next { s.afterRead s.regs.hl with
        regs := Regs.setHL { s.regs with a := s.peek s.regs.hl } (s.regs.hl + 1), stepCycles := 2 }) ∧
    (s.canRead s.regs.hl = true → exec .ld_a_atHLd s =
      .next { s.afterRead s.regs.hl with
        regs := Regs.setHL { s.regs with a := s.peek s.regs.hl } (s.regs.hl - 1), stepCycles := 2 }) ∧
    ∀ k f, memWrite (indirectAddr k s.regs) s.regs.a s = .fault f → exec (rowStoreA k) s = .fault f

/-- R241, R243, R274, R275: the 16-bit loads and the 16-bit increment and decrement, modulo 2^16, no flag. -/
def Obligations.WordRegisters : Prop :=
  (∀ r v, encode (rowLdImm16 r v) = [0x01 + 16 * r16Index r, v.extractLsb' 0 8, v.extractLsb' 8 8]) ∧
  (∀ r, encode (rowInc16 r) = [0x03 + 16 * r16Index r]) ∧ (∀ r, encode (rowDec16 r) = [0x0B + 16 * r16Index r]) ∧
  encode .ld_sp_hl = [0xF9] ∧
  ∀ (s : State) (r : R16) (v : Word),
    exec (rowLdImm16 r v) s = .next { s with regs := s.regs.set16 r v, stepCycles := 3 } ∧
    exec (rowInc16 r) s = .next { s with
      regs := s.regs.set16 r (BitVec.ofNat 16 ((s.regs.get16 r).toNat + 1)), stepCycles := 2 } ∧
    exec (rowDec16 r) s = .next { s with
      regs := s.regs.set16 r (BitVec.ofInt 16 (((s.regs.get16 r).toNat : Int) - 1)), stepCycles := 2 } ∧
    exec .ld_sp_hl s = .next { s with regs := { s.regs with sp := s.regs.hl }, stepCycles := 2 }

/-- R244, R290, R291: the 16-bit sums. The carries of the SP forms are those of the unsigned low-byte addition whatever
the sign of e8; those of ADD HL come out of bits 11 and 15, and Z is unchanged. -/
def Obligations.WordSums : Prop :=
  (∀ n, encode (.ld_hl_spE8 n) = [0xF8, n]) ∧ (∀ n, encode (.add_sp_e8 n) = [0xE8, n]) ∧
  (∀ r, encode (rowAddHL r) = [0x09 + 16 * r16Index r]) ∧
  ∀ (s : State) (n : Byte) (r : R16),
    exec (.ld_hl_spE8 n) s = .next { s with
      regs := Regs.setHL { s.regs with
        f := ⟨false, false, decide (15 < s.regs.sp.toNat % 16 + n.toNat % 16),
          decide (255 < s.regs.sp.toNat % 256 + n.toNat)⟩ } (BitVec.ofInt 16 ((s.regs.sp.toNat : Int) + n.toInt)),
      stepCycles := 3 } ∧
    exec (.add_sp_e8 n) s = .next { s with
      regs := { s.regs with
        sp := BitVec.ofInt 16 ((s.regs.sp.toNat : Int) + n.toInt),
        f := ⟨false, false, decide (15 < s.regs.sp.toNat % 16 + n.toNat % 16),
          decide (255 < s.regs.sp.toNat % 256 + n.toNat)⟩ },
      stepCycles := 4 } ∧
    exec (rowAddHL r) s = .next { s with
      regs := Regs.setHL { s.regs with
        f := ⟨s.regs.f.z, false, decide (4095 < s.regs.hl.toNat % 4096 + (s.regs.get16 r).toNat % 4096),
          decide (65535 < s.regs.hl.toNat + (s.regs.get16 r).toNat)⟩ }
        (BitVec.ofNat 16 (s.regs.hl.toNat + (s.regs.get16 r).toNat)),
      stepCycles := 2 }

/-- R242, R245, R246, R300-R303: the absolute and the high-page loads and stores of A, and the store of SP, its low byte
at the lower address; a store that cannot be made faults with the write's own fault. -/
def Obligations.AbsoluteAndPort : Prop :=
  (∀ a, encode (.ld_atA16_sp a) = [0x08, a.extractLsb' 0 8, a.extractLsb' 8 8]) ∧
  (∀ a, encode (.ld_atA16_a a) = [0xEA, a.extractLsb' 0 8, a.extractLsb' 8 8]) ∧
  (∀ a, encode (.ld_a_atA16 a) = [0xFA, a.extractLsb' 0 8, a.extractLsb' 8 8]) ∧
  (∀ n, encode (.ldh_atA8_a n) = [0xE0, n]) ∧ (∀ n, encode (.ldh_a_atA8 n) = [0xF0, n]) ∧
  encode .ld_atC_a = [0xE2] ∧ encode .ld_a_atC = [0xF2] ∧
  ∀ s : State,
    (∀ a, s.canWrite a = true → s.canWrite (a + 1) = true → exec (.ld_atA16_sp a) s =
      .next { (s.poke a (s.regs.sp.extractLsb' 0 8)).poke (a + 1) (s.regs.sp.extractLsb' 8 8) with
        stepCycles := 5 }) ∧
    (∀ a, s.canWrite a = true → exec (.ld_atA16_a a) s = .next { s.poke a s.regs.a with stepCycles := 4 }) ∧
    (∀ a, s.canRead a = true → exec (.ld_a_atA16 a) s =
      .next { s.afterRead a with regs := { s.regs with a := s.peek a }, stepCycles := 4 }) ∧
    (∀ n : Byte, s.canWrite (0xFF00 ||| n.setWidth 16) = true → exec (.ldh_atA8_a n) s =
      .next { s.poke (0xFF00 ||| n.setWidth 16) s.regs.a with stepCycles := 3 }) ∧
    (∀ n : Byte, exec (.ldh_a_atA8 n) s =
      .next { s.afterRead (0xFF00 ||| n.setWidth 16) with
        regs := { s.regs with a := s.peek (0xFF00 ||| n.setWidth 16) }, stepCycles := 3 }) ∧
    (s.canWrite (0xFF00 ||| s.regs.c.setWidth 16) = true → exec .ld_atC_a s =
      .next { s.poke (0xFF00 ||| s.regs.c.setWidth 16) s.regs.a with stepCycles := 2 }) ∧
    exec .ld_a_atC s =
      .next { s.afterRead (0xFF00 ||| s.regs.c.setWidth 16) with
        regs := { s.regs with a := s.peek (0xFF00 ||| s.regs.c.setWidth 16) }, stepCycles := 2 } ∧
    (∀ a f, memWrite a (s.regs.sp.extractLsb' 0 8) s = .fault f → exec (.ld_atA16_sp a) s = .fault f) ∧
    (∀ a f, s.canWrite a = true →
      memWrite (a + 1) (s.regs.sp.extractLsb' 8 8) (s.poke a (s.regs.sp.extractLsb' 0 8)) = .fault f →
      exec (.ld_atA16_sp a) s = .fault f) ∧
    (∀ a f, memWrite a s.regs.a s = .fault f → exec (.ld_atA16_a a) s = .fault f) ∧
    (∀ (n : Byte) f, memWrite (0xFF00 ||| n.setWidth 16) s.regs.a s = .fault f →
      exec (.ldh_atA8_a n) s = .fault f) ∧
    ∀ f, memWrite (0xFF00 ||| s.regs.c.setWidth 16) s.regs.a s = .fault f → exec .ld_atC_a s = .fault f

/-- R260-R262: PUSH and POP of BC, DE, HL and AF; POP AF stores `v & 0xF0` in F. A push faults only with the fault of
one of its two writes, SP already moved for it. -/
def Obligations.PushAndPop : Prop :=
  (∀ r, encode (rowPush r) = [0xC5 + 16 * r16StkIndex r]) ∧ (∀ r, encode (rowPop r) = [0xC1 + 16 * r16StkIndex r]) ∧
  (∀ (s : State) (r : R16Stk), s.canWrite (s.regs.sp - 1) = true → s.canWrite (s.regs.sp - 2) = true →
    exec (rowPush r) s =
      .next { (s.poke (s.regs.sp - 1) ((s.regs.getStk r).extractLsb' 8 8)).poke (s.regs.sp - 2)
          ((s.regs.getStk r).extractLsb' 0 8) with
        regs := { s.regs with sp := s.regs.sp - 2 }, stepCycles := 4 }) ∧
  (∀ (s : State) (r : R16Stk) (f : Fault),
    memWrite (s.regs.sp - 1) ((s.regs.getStk r).extractLsb' 8 8) (s.setSP (s.regs.sp - 1)) = .fault f →
    exec (rowPush r) s = .fault f) ∧
  (∀ (s : State) (r : R16Stk) (f : Fault), s.canWrite (s.regs.sp - 1) = true →
    memWrite (s.regs.sp - 2) ((s.regs.getStk r).extractLsb' 0 8)
      ((s.poke (s.regs.sp - 1) ((s.regs.getStk r).extractLsb' 8 8)).setSP (s.regs.sp - 2)) = .fault f →
    exec (rowPush r) s = .fault f) ∧
  ∀ s : State, s.canRead s.regs.sp = true → s.canRead (s.regs.sp + 1) = true →
    (∀ r, r ≠ .af → ∃ t, exec (rowPop r) s = .next t ∧
      t = { (s.afterRead s.regs.sp).afterRead (s.regs.sp + 1) with regs := t.regs, stepCycles := 3 } ∧
      t.regs.getStk r = (s.afterRead s.regs.sp).peek (s.regs.sp + 1) ++ s.peek s.regs.sp ∧
      t.regs.sp = s.regs.sp + 2 ∧ t.regs.f = s.regs.f ∧ SameRegsBut (halvesStk r) s t) ∧
    exec .pop_af s =
      .next { (s.afterRead s.regs.sp).afterRead (s.regs.sp + 1) with
        regs := { s.regs with
          sp := s.regs.sp + 2, a := (s.afterRead s.regs.sp).peek (s.regs.sp + 1),
          f := ⟨(s.peek s.regs.sp).getLsbD 7, (s.peek s.regs.sp).getLsbD 6, (s.peek s.regs.sp).getLsbD 5,
            (s.peek s.regs.sp).getLsbD 4⟩ },
        stepCycles := 3 }

/-- R263: a push followed at once by a pop of the same slot restores the pair and SP when the two stack bytes are
storage; SP is restored in every case. -/
def Obligations.PushThenPop : Prop :=
  ∀ (s : State) (r : R16Stk), s.canWrite (s.regs.sp - 1) = true → s.canWrite (s.regs.sp - 2) = true →
    ∃ t u, exec (rowPush r) s = .next t ∧ exec (rowPop r) t = .next u ∧ u.regs.sp = s.regs.sp ∧
      (s.readsBack (s.regs.sp - 1) = true → s.readsBack (s.regs.sp - 2) = true → u.regs = s.regs)

/-! ## Arithmetic and logic -/

/-- R270-R273: INC and DEC of a register or of the byte at HL; C is unchanged, and the flags use the value read and the
value computed. The (HL) forms fault with the fault of the write. -/
def Obligations.IncDecByte : Prop :=
  (∀ o, encode (rowInc8 o) = [0x04 + 8 * operandIndex o]) ∧ (∀ o, encode (rowDec8 o) = [0x05 + 8 * operandIndex o]) ∧
  ∀ s : State,
    (∀ x, exec (rowInc8 (.reg x)) s = .next { s with
      regs := { s.regs.set8 x (s.regs.get8 x + 1) with
        f := ⟨decide (s.regs.get8 x = 0xFF), false, decide ((s.regs.get8 x).toNat % 16 = 15), s.regs.f.c⟩ },
      stepCycles := 1 }) ∧
    (∀ x, exec (rowDec8 (.reg x)) s = .next { s with
      regs := { s.regs.set8 x (s.regs.get8 x - 1) with
        f := ⟨decide (s.regs.get8 x = 0x01), true, decide ((s.regs.get8 x).toNat % 16 = 0), s.regs.f.c⟩ },
      stepCycles := 1 }) ∧
    (s.canWrite s.regs.hl = true →
      exec .inc_atHL s = .next { (s.afterRead s.regs.hl).poke s.regs.hl (s.peek s.regs.hl + 1) with
        regs := { s.regs with
          f := ⟨decide (s.peek s.regs.hl = 0xFF), false, decide ((s.peek s.regs.hl).toNat % 16 = 15), s.regs.f.c⟩ },
        stepCycles := 3 } ∧
      exec .dec_atHL s = .next { (s.afterRead s.regs.hl).poke s.regs.hl (s.peek s.regs.hl - 1) with
        regs := { s.regs with
          f := ⟨decide (s.peek s.regs.hl = 0x01), true, decide ((s.peek s.regs.hl).toNat % 16 = 0), s.regs.f.c⟩ },
        stepCycles := 3 }) ∧
    (∀ f, memWrite s.regs.hl (s.peek s.regs.hl + 1) (s.afterRead s.regs.hl) = .fault f → exec .inc_atHL s = .fault f) ∧
    ∀ f, memWrite s.regs.hl (s.peek s.regs.hl - 1) (s.afterRead s.regs.hl) = .fault f → exec .dec_atHL s = .fault f

/-- R28, R30, R280-R282: ADD and ADC in all three operand forms: the exact sum narrowed to 8 bits, Z, N = 0, and the
carries out of bits 3 and 7. -/
def Obligations.AddAdc : Prop :=
  (∀ o, encode (rowAlu .add o) = [0x80 + operandIndex o]) ∧ (∀ o, encode (rowAlu .adc o) = [0x88 + operandIndex o]) ∧
  (∀ n, encode (rowAluImm .add n) = [0xC6, n]) ∧ (∀ n, encode (rowAluImm .adc n) = [0xCE, n]) ∧
  (∀ (s : State) (o : Operand8), s.canReadOperand o = true →
    exec (rowAlu .add o) s = .next { s.afterOperand o with
      regs := { s.regs with a := (sumResult s.regs.a (s.operand o) 0).1, f := (sumResult s.regs.a (s.operand o) 0).2 },
      stepCycles := cyclesBy o 1 2 } ∧
    exec (rowAlu .adc o) s = .next { s.afterOperand o with
      regs := { s.regs with
        a := (sumResult s.regs.a (s.operand o) s.regs.f.c.toNat).1,
        f := (sumResult s.regs.a (s.operand o) s.regs.f.c.toNat).2 },
      stepCycles := cyclesBy o 1 2 }) ∧
  ∀ (s : State) (n : Byte),
    exec (rowAluImm .add n) s = .next { s with
      regs := { s.regs with a := (sumResult s.regs.a n 0).1, f := (sumResult s.regs.a n 0).2 }, stepCycles := 2 } ∧
    exec (rowAluImm .adc n) s = .next { s with
      regs := { s.regs with
        a := (sumResult s.regs.a n s.regs.f.c.toNat).1, f := (sumResult s.regs.a n s.regs.f.c.toNat).2 },
      stepCycles := 2 }

/-- R29, R31, R280, R283, R284, R288: SUB, SBC and CP in all three operand forms: the exact difference narrowed to 8
bits, Z, N = 1, and the borrows; CP writes the flags of SUB and keeps A. -/
def Obligations.SubSbcCp : Prop :=
  (∀ o, encode (rowAlu .sub o) = [0x90 + operandIndex o]) ∧ (∀ o, encode (rowAlu .sbc o) = [0x98 + operandIndex o]) ∧
  (∀ o, encode (rowAlu .cp o) = [0xB8 + operandIndex o]) ∧ (∀ n, encode (rowAluImm .sub n) = [0xD6, n]) ∧
  (∀ n, encode (rowAluImm .sbc n) = [0xDE, n]) ∧ (∀ n, encode (rowAluImm .cp n) = [0xFE, n]) ∧
  (∀ (s : State) (o : Operand8), s.canReadOperand o = true →
    exec (rowAlu .sub o) s = .next { s.afterOperand o with
      regs := { s.regs with
        a := (diffResult s.regs.a (s.operand o) 0).1, f := (diffResult s.regs.a (s.operand o) 0).2 },
      stepCycles := cyclesBy o 1 2 } ∧
    exec (rowAlu .sbc o) s = .next { s.afterOperand o with
      regs := { s.regs with
        a := (diffResult s.regs.a (s.operand o) s.regs.f.c.toNat).1,
        f := (diffResult s.regs.a (s.operand o) s.regs.f.c.toNat).2 },
      stepCycles := cyclesBy o 1 2 } ∧
    exec (rowAlu .cp o) s = .next { s.afterOperand o with
      regs := { s.regs with f := (diffResult s.regs.a (s.operand o) 0).2 }, stepCycles := cyclesBy o 1 2 }) ∧
  ∀ (s : State) (n : Byte),
    exec (rowAluImm .sub n) s = .next { s with
      regs := { s.regs with a := (diffResult s.regs.a n 0).1, f := (diffResult s.regs.a n 0).2 }, stepCycles := 2 } ∧
    exec (rowAluImm .sbc n) s = .next { s with
      regs := { s.regs with
        a := (diffResult s.regs.a n s.regs.f.c.toNat).1, f := (diffResult s.regs.a n s.regs.f.c.toNat).2 },
      stepCycles := 2 } ∧
    exec (rowAluImm .cp n) s = .next { s with
      regs := { s.regs with f := (diffResult s.regs.a n 0).2 }, stepCycles := 2 }

/-- R280, R285-R287: AND, XOR and OR in all three operand forms. -/
def Obligations.AndXorOr : Prop :=
  (∀ o, encode (rowAlu .and o) = [0xA0 + operandIndex o]) ∧ (∀ o, encode (rowAlu .xor o) = [0xA8 + operandIndex o]) ∧
  (∀ o, encode (rowAlu .or o) = [0xB0 + operandIndex o]) ∧ (∀ n, encode (rowAluImm .and n) = [0xE6, n]) ∧
  (∀ n, encode (rowAluImm .xor n) = [0xEE, n]) ∧ (∀ n, encode (rowAluImm .or n) = [0xF6, n]) ∧
  (∀ (s : State) (o : Operand8), s.canReadOperand o = true →
    exec (rowAlu .and o) s = .next { s.afterOperand o with
      regs := { s.regs with
        a := s.regs.a &&& s.operand o, f := ⟨decide (s.regs.a &&& s.operand o = 0), false, true, false⟩ },
      stepCycles := cyclesBy o 1 2 } ∧
    exec (rowAlu .xor o) s = .next { s.afterOperand o with
      regs := { s.regs with
        a := s.regs.a ^^^ s.operand o, f := ⟨decide (s.regs.a = s.operand o), false, false, false⟩ },
      stepCycles := cyclesBy o 1 2 } ∧
    exec (rowAlu .or o) s = .next { s.afterOperand o with
      regs := { s.regs with
        a := s.regs.a ||| s.operand o, f := ⟨decide (s.regs.a = 0 ∧ s.operand o = 0), false, false, false⟩ },
      stepCycles := cyclesBy o 1 2 }) ∧
  ∀ (s : State) (n : Byte),
    exec (rowAluImm .and n) s = .next { s with
      regs := { s.regs with a := s.regs.a &&& n, f := ⟨decide (s.regs.a &&& n = 0), false, true, false⟩ },
      stepCycles := 2 } ∧
    exec (rowAluImm .xor n) s = .next { s with
      regs := { s.regs with a := s.regs.a ^^^ n, f := ⟨decide (s.regs.a = n), false, false, false⟩ },
      stepCycles := 2 } ∧
    exec (rowAluImm .or n) s = .next { s with
      regs := { s.regs with a := s.regs.a ||| n, f := ⟨decide (s.regs.a = 0 ∧ n = 0), false, false, false⟩ },
      stepCycles := 2 }

/-- R281-R289: the laws of the 8-bit operations. R289 is the spec's own inference from R281-R288. -/
def Obligations.AluLaws : Prop :=
  ∀ (a v : Byte) (f : Flags),
    (alu .add a v f).1.toNat = (a.toNat + v.toNat) % 256 ∧ ((alu .add a v f).2.c = true ↔ 256 ≤ a.toNat + v.toNat) ∧
    (f.c = false → alu .adc a v f = alu .add a v f ∧ alu .sbc a v f = alu .sub a v f) ∧
    (alu .sub a v f).1.toNat = (a.toNat + 256 - v.toNat) % 256 ∧ ((alu .sub a v f).2.c = true ↔ a.toNat < v.toNat) ∧
    alu .cp a v f = (a, (alu .sub a v f).2) ∧
    (∀ op, op = .and ∨ op = .xor ∨ op = .or →
      (alu op a v f).2.n = false ∧ (alu op a v f).2.c = false ∧ ((alu op a v f).2.h = true ↔ op = .and)) ∧
    (∀ op g, g.c = f.c → (alu op a v g).2 = (alu op a v f).2) ∧
    ∀ op, (alu op a v f).2.toByte &&& 0x0F = 0

/-- R310-R318: the extended rotates, shifts and SWAP on a register or the byte at HL; the flags use the computed
result, and the (HL) form faults with the fault of its write. -/
def Obligations.RotateShift : Prop :=
  (∀ op o, encode (rowRot op o) = [0xCB, 8 * rotIndex op + operandIndex o]) ∧
  ∀ (s : State) (op : RotOp),
    (∀ x, exec (rowRot op (.reg x)) s = .next { s with
      regs := { s.regs.set8 x (rotResult op (s.regs.get8 x) s.regs.f.c).1 with
        f := ⟨decide ((rotResult op (s.regs.get8 x) s.regs.f.c).1 = 0), false, false,
          (rotResult op (s.regs.get8 x) s.regs.f.c).2⟩ },
      stepCycles := 2 }) ∧
    (s.canWrite s.regs.hl = true → exec (rowRot op .atHL) s =
      .next { (s.afterRead s.regs.hl).poke s.regs.hl (rotResult op (s.peek s.regs.hl) s.regs.f.c).1 with
        regs := { s.regs with
          f := ⟨decide ((rotResult op (s.peek s.regs.hl) s.regs.f.c).1 = 0), false, false,
            (rotResult op (s.peek s.regs.hl) s.regs.f.c).2⟩ },
        stepCycles := 4 }) ∧
    ∀ f, memWrite s.regs.hl (rotResult op (s.peek s.regs.hl) s.regs.f.c).1 (s.afterRead s.regs.hl) = .fault f →
      exec (rowRot op .atHL) s = .fault f

/-- R330-R332: BIT tests one bit and writes flags only; RES and SET change that bit of the operand and no flag,
and fault at HL with the fault of their write. -/
def Obligations.BitResSet : Prop :=
  (∀ (b : Fin 8) (o : Operand8),
    encode (rowBit b o) = [0xCB, 0x40 + 8 * BitVec.ofNat 8 b.val + operandIndex o] ∧
    encode (rowRes b o) = [0xCB, 0x80 + 8 * BitVec.ofNat 8 b.val + operandIndex o] ∧
    encode (rowSet b o) = [0xCB, 0xC0 + 8 * BitVec.ofNat 8 b.val + operandIndex o]) ∧
  ∀ (s : State) (b : Fin 8),
    (∀ o, s.canReadOperand o = true → exec (rowBit b o) s = .next { s.afterOperand o with
      regs := { s.regs with f := ⟨!(s.operand o).getLsbD b.val, false, true, s.regs.f.c⟩ },
      stepCycles := cyclesBy o 2 3 }) ∧
    ∃ clear put : Byte → Byte,
      (∀ v, ∀ j : Fin 8, (clear v).getLsbD j.val = (v.getLsbD j.val && decide (j ≠ b)) ∧
        (put v).getLsbD j.val = (v.getLsbD j.val || decide (j = b))) ∧
      (∀ x, exec (rowRes b (.reg x)) s = .next { s with
          regs := s.regs.set8 x (clear (s.regs.get8 x)), stepCycles := 2 } ∧
        exec (rowSet b (.reg x)) s = .next { s with
          regs := s.regs.set8 x (put (s.regs.get8 x)), stepCycles := 2 }) ∧
      (s.canWrite s.regs.hl = true →
        exec (rowRes b .atHL) s = .next { (s.afterRead s.regs.hl).poke s.regs.hl (clear (s.peek s.regs.hl)) with
          stepCycles := 4 } ∧
        exec (rowSet b .atHL) s = .next { (s.afterRead s.regs.hl).poke s.regs.hl (put (s.peek s.regs.hl)) with
          stepCycles := 4 }) ∧
      (∀ f, memWrite s.regs.hl (clear (s.peek s.regs.hl)) (s.afterRead s.regs.hl) = .fault f →
        exec (rowRes b .atHL) s = .fault f) ∧
      ∀ f, memWrite s.regs.hl (put (s.peek s.regs.hl)) (s.afterRead s.regs.hl) = .fault f →
        exec (rowSet b .atHL) s = .fault f

/-- R340-R343, R345-R347: the accumulator rotates (Z always 0), CPL, SCF and CCF. -/
def Obligations.AccumulatorMisc : Prop :=
  encode .rlca = [0x07] ∧ encode .rrca = [0x0F] ∧ encode .rla = [0x17] ∧ encode .rra = [0x1F] ∧
  encode .cpl = [0x2F] ∧ encode .scf = [0x37] ∧ encode .ccf = [0x3F] ∧
  ∀ s : State,
    exec .rlca s = .next { s with
      regs := { s.regs with a := s.regs.a.rotateLeft 1, f := ⟨false, false, false, s.regs.a.msb⟩ }, stepCycles := 1 } ∧
    exec .rrca s = .next { s with
      regs := { s.regs with a := s.regs.a.rotateRight 1, f := ⟨false, false, false, s.regs.a.getLsbD 0⟩ },
      stepCycles := 1 } ∧
    exec .rla s = .next { s with
      regs := { s.regs with
        a := s.regs.a.extractLsb' 0 7 ++ BitVec.ofBool s.regs.f.c, f := ⟨false, false, false, s.regs.a.msb⟩ },
      stepCycles := 1 } ∧
    exec .rra s = .next { s with
      regs := { s.regs with
        a := BitVec.ofBool s.regs.f.c ++ s.regs.a.extractLsb' 1 7, f := ⟨false, false, false, s.regs.a.getLsbD 0⟩ },
      stepCycles := 1 } ∧
    exec .cpl s = .next { s with
      regs := { s.regs with a := ~~~s.regs.a, f := ⟨s.regs.f.z, true, true, s.regs.f.c⟩ }, stepCycles := 1 } ∧
    exec .scf s = .next { s with regs := { s.regs with f := ⟨s.regs.f.z, false, false, true⟩ }, stepCycles := 1 } ∧
    exec .ccf s = .next { s with regs := { s.regs with f := ⟨s.regs.f.z, false, false, !s.regs.f.c⟩ }, stepCycles := 1 }

/-- R344: DAA by its pseudocode, in exact arithmetic: the correction is added after an addition and subtracted after a
subtraction; C is set by an add-side correction of 0x60 and otherwise keeps its value; N is unchanged. -/
def Obligations.DecimalAdjust : Prop :=
  encode .daa = [0x27] ∧
  ∀ s : State, ∃ r : Byte,
    exec .daa s = .next { s with
      regs := { s.regs with
        a := r,
        f := ⟨decide (r = 0), s.regs.f.n, false,
          decide (s.regs.f.c = true ∨ (s.regs.f.n = false ∧ 0x99 < s.regs.a.toNat))⟩ },
      stepCycles := 1 } ∧
    (s.regs.f.n = false → r.toNat = (s.regs.a.toNat + daaCorrection s.regs.a.toNat s.regs.f) % 256) ∧
    (s.regs.f.n = true → r.toNat = (s.regs.a.toNat + 256 - daaCorrection s.regs.a.toNat s.regs.f) % 256)

/-- R102, R123: the row of the prefix byte, taken by itself, reads one more byte, advances PC and is the extended
instruction of that byte, whatever the byte (log 11); it answers a state when that byte is readable and not refused and the byte
at HL is writable. -/
def Obligations.PrefixRow : Prop :=
  ∀ s : State, s.canRead s.pc = true → s.refuses true (s.peek s.pc) = false →
    exec .prefixCB s = exec (decodeExt (s.peek s.pc)) { s.afterRead s.pc with pc := s.pc + 1 } ∧
    (s.canWrite s.regs.hl = true → ∃ t, exec .prefixCB s = .next t ∧ t.pc = s.pc + 1)

/-! ## Frames -/

/-- Frame of the instructions with an 8-bit destination, a register or the byte at HL: LD, INC, DEC, BIT, RES, SET and
the rotates (R25, R27, R230-R234, R270-R273, R310, R330-R332). -/
def Obligations.FrameByteForms : Prop :=
  (∀ (s t : State) (x : R8) (i : Instr),
    ((∃ y, i = rowLd8 (.reg x) y) ∨ (∃ n, i = rowLdImm8 (.reg x) n) ∨ (∃ b, i = rowRes b (.reg x)) ∨
      ∃ b, i = rowSet b (.reg x)) → exec i s = .next t →
    OnlyRegisters s t ∧ SameRegsBut [x] s t ∧ t.regs.sp = s.regs.sp ∧ t.regs.f = s.regs.f) ∧
  (∀ (s t : State) (x : R8) (i : Instr), (i = rowInc8 (.reg x) ∨ i = rowDec8 (.reg x)) → exec i s = .next t →
    OnlyRegisters s t ∧ SameRegsBut [x] s t ∧ t.regs.sp = s.regs.sp ∧ t.regs.f.c = s.regs.f.c) ∧
  (∀ (s t : State) (x : R8) (op : RotOp), exec (rowRot op (.reg x)) s = .next t →
    OnlyRegisters s t ∧ SameRegsBut [x] s t ∧ t.regs.sp = s.regs.sp) ∧
  (∀ (s t : State) (b : Fin 8) (o : Operand8), exec (rowBit b o) s = .next t →
    OnlyRegisters s t ∧ SameRegsBut [] s t ∧ t.regs.sp = s.regs.sp ∧ t.regs.f.c = s.regs.f.c) ∧
  (∀ (s t : State) (i : Instr),
    ((∃ y, i = rowLd8 .atHL (.reg y)) ∨ (∃ n, i = rowLdImm8 .atHL n) ∨ (∃ b, i = rowRes b .atHL) ∨
      ∃ b, i = rowSet b .atHL) → exec i s = .next t →
    OnlyStores [s.regs.hl] s t ∧ t.regs = s.regs) ∧
  (∀ (s t : State) (i : Instr), (i = rowInc8 .atHL ∨ i = rowDec8 .atHL) → exec i s = .next t →
    OnlyStores [s.regs.hl] s t ∧ SameRegsBut [] s t ∧ t.regs.sp = s.regs.sp ∧ t.regs.f.c = s.regs.f.c) ∧
  ∀ (s t : State) (op : RotOp), exec (rowRot op .atHL) s = .next t →
    OnlyStores [s.regs.hl] s t ∧ SameRegsBut [] s t ∧ t.regs.sp = s.regs.sp

/-- Frame of the instructions whose destination is A, the flags or a pair (R25-R27, R236, R239-R241, R243, R244, R246,
R274, R275, R280-R291, R301, R303, R340-R347). -/
def Obligations.FrameAccumulatorAndPairs : Prop :=
  (∀ (s t : State) (i : Instr), ((∃ op o, i = rowAlu op o) ∨ ∃ op n, i = rowAluImm op n) → exec i s = .next t →
    OnlyRegisters s t ∧ SameRegsBut [.a] s t ∧ t.regs.sp = s.regs.sp) ∧
  (∀ (s t : State) (i : Instr), ((∃ o, i = rowAlu .cp o) ∨ ∃ n, i = rowAluImm .cp n) → exec i s = .next t →
    SameRegsBut [] s t) ∧
  (∀ (s t : State) (i : Instr), i ∈ [.rlca, .rrca, .rla, .rra, .daa, .cpl] → exec i s = .next t →
    OnlyRegisters s t ∧ SameRegsBut [.a] s t ∧ t.regs.sp = s.regs.sp) ∧
  (∀ (s t : State) (i : Instr), i ∈ [.scf, .ccf] → exec i s = .next t →
    OnlyRegisters s t ∧ SameRegsBut [] s t ∧ t.regs.sp = s.regs.sp ∧ t.regs.f.z = s.regs.f.z) ∧
  (∀ s t : State, exec .cpl s = .next t → t.regs.f.z = s.regs.f.z ∧ t.regs.f.c = s.regs.f.c) ∧
  (∀ s t : State, exec .daa s = .next t → t.regs.f.n = s.regs.f.n) ∧
  (∀ (s t : State) (i : Instr),
    ((∃ a, i = .ld_a_atA16 a) ∨ (∃ n, i = .ldh_a_atA8 n) ∨ i = .ld_a_atC ∨ i = .ld_a_atBC ∨ i = .ld_a_atDE) →
    exec i s = .next t →
    OnlyRegisters s t ∧ SameRegsBut [.a] s t ∧ t.regs.sp = s.regs.sp ∧ t.regs.f = s.regs.f) ∧
  (∀ (s t : State) (i : Instr), (i = .ld_a_atHLi ∨ i = .ld_a_atHLd) → exec i s = .next t →
    OnlyRegisters s t ∧ SameRegsBut [.a, .h, .l] s t ∧ t.regs.sp = s.regs.sp ∧ t.regs.f = s.regs.f) ∧
  (∀ (s t : State) (r : R16) (i : Instr), ((∃ v, i = rowLdImm16 r v) ∨ i = rowInc16 r ∨ i = rowDec16 r) →
    exec i s = .next t →
    OnlyRegisters s t ∧ SameRegsBut (halves r) s t ∧ (r ≠ .sp → t.regs.sp = s.regs.sp) ∧ t.regs.f = s.regs.f) ∧
  (∀ (s t : State) (r : R16), exec (rowAddHL r) s = .next t →
    OnlyRegisters s t ∧ SameRegsBut [.h, .l] s t ∧ t.regs.sp = s.regs.sp ∧ t.regs.f.z = s.regs.f.z) ∧
  (∀ (s t : State) (n : Byte), exec (.ld_hl_spE8 n) s = .next t →
    OnlyRegisters s t ∧ SameRegsBut [.h, .l] s t ∧ t.regs.sp = s.regs.sp) ∧
  (∀ (s t : State) (n : Byte), exec (.add_sp_e8 n) s = .next t → OnlyRegisters s t ∧ SameRegsBut [] s t) ∧
  ∀ s t : State, exec .ld_sp_hl s = .next t → OnlyRegisters s t ∧ SameRegsBut [] s t ∧ t.regs.f = s.regs.f

/-- Frame of the stores of A and SP (R235, R237, R238, R242, R245, R300, R302): the bytes stored to, HL for the (HL+) and
(HL-) forms, and nothing else. -/
def Obligations.FrameStores : Prop :=
  (∀ (s t : State) (k : IndirectA), exec (rowStoreA k) s = .next t →
    OnlyStores [indirectAddr k s.regs] s t ∧ SameRegsBut [.h, .l] s t ∧ t.regs.sp = s.regs.sp ∧
    t.regs.f = s.regs.f ∧ (k = .bc ∨ k = .de → t.regs = s.regs)) ∧
  (∀ (s t : State) (a : Word), exec (.ld_atA16_a a) s = .next t → OnlyStores [a] s t ∧ t.regs = s.regs) ∧
  (∀ (s t : State) (n : Byte), exec (.ldh_atA8_a n) s = .next t → OnlyStores [highPage n] s t ∧ t.regs = s.regs) ∧
  (∀ s t : State, exec .ld_atC_a s = .next t → OnlyStores [highPage s.regs.c] s t ∧ t.regs = s.regs) ∧
  ∀ (s t : State) (a : Word), exec (.ld_atA16_sp a) s = .next t → OnlyStores [a, a + 1] s t ∧ t.regs = s.regs

/-- Frame of the stack and control instructions (R200-R220, R260-R262): what is named is what changes. -/
def Obligations.FrameStackAndControl : Prop :=
  (∀ (s t : State) (i : Instr),
    ((∃ r, i = rowPush r) ∨ (∃ a, i = .call_a16 a) ∨
      (∃ cc a, i = rowCallCond cc a ∧ condHolds cc s.regs.f = true) ∨ ∃ y, i = rowRst y) →
    exec i s = .next t →
    OnlyStores [s.regs.sp - 1, s.regs.sp - 2] s t ∧ SameRegsBut [] s t ∧ t.regs.f = s.regs.f ∧
    t.regs.sp = s.regs.sp - 2) ∧
  (∀ (s t : State) (cc : Cond) (a : Word), condHolds cc s.regs.f = false → exec (rowCallCond cc a) s = .next t →
    OnlyRegisters s t ∧ t.regs = s.regs ∧ t.pc = s.pc) ∧
  (∀ (s t : State) (r : R16Stk), exec (rowPop r) s = .next t →
    OnlyRegisters s t ∧ SameRegsBut (halvesStk r) s t ∧ t.regs.sp = s.regs.sp + 2 ∧
    (r ≠ .af → t.regs.f = s.regs.f)) ∧
  (∀ (s t : State) (i : Instr), i = .ret ∨ (∃ cc, i = rowRetCond cc) → exec i s = .next t →
    OnlyRegisters s t ∧ SameRegsBut [] s t ∧ t.regs.f = s.regs.f) ∧
  (∀ s t : State, exec .reti s = .next t →
    OnlyRegisters { s with ime := true, eiPending := false } t ∧ SameRegsBut [] s t ∧ t.regs.f = s.regs.f) ∧
  (∀ (s t : State) (i : Instr),
    ((∃ n, i = .jr_e8 n) ∨ (∃ cc n, i = rowJrCond cc n) ∨ (∃ a, i = .jp_a16 a) ∨ (∃ cc a, i = rowJpCond cc a) ∨
      i = .jp_hl ∨ i = .nop) →
    exec i s = .next t → OnlyRegisters s t ∧ t.regs = s.regs) ∧
  (∀ (s t : State) (n : Byte), exec (.stop n) s = .next t →
    OnlyRegisters { s with runState := .stopped } t ∧ t.regs = s.regs ∧ t.pc = s.pc) ∧
  (∀ s t : State, exec .halt s = .next t →
    OnlyRegisters { s with runState := t.runState, haltBug := t.haltBug } t ∧ t.regs = s.regs ∧ t.pc = s.pc) ∧
  (∀ s t : State, exec .di s = .next t →
    OnlyRegisters { s with ime := false, eiPending := false } t ∧ t.regs = s.regs ∧ t.pc = s.pc) ∧
  ∀ s t : State, exec .ei s = .next t →
    OnlyRegisters { s with eiPending := true } t ∧ t.regs = s.regs ∧ t.pc = s.pc

/-- R126, R514: every instruction that answers a state took one of the cycle counts of its row. -/
def Obligations.CycleCounts : Prop :=
  ∀ (i : Instr) (s t : State), i ≠ .prefixCB → exec i s = .next t → t.stepCycles ∈ (descriptor i).cycles

/-- R48, R215, R216, R220, R232, R242, R260, R273, R302, R310, R400 (code 3), R401: every form that stores to a DMA
register faults with the address, and what the instruction did before stays: a `draw()` input taken by the read of a
read-modify-write form (log 3), SP already moved, the first byte of a two-byte store already written. No jump is made:
CALL, CALL cc and RST fault by R260 and R401 over the call rules' own "Exceptions: none" (log 21). -/
def Obligations.StoreFaults : Prop :=
  ∀ (s : State) (a : Word), (a.toNat = 0xFF46 ∨ 0xFF51 ≤ a.toNat ∧ a.toNat ≤ 0xFF55) →
    (∀ i : Instr,
      (i = .ld_atA16_a a ∨ i = .ld_atA16_sp a ∨
        (s.regs.hl = a ∧ ((∃ y, i = rowLd8 .atHL (.reg y)) ∨ ∃ n, i = rowLdImm8 .atHL n)) ∨
        (∃ k, indirectAddr k s.regs = a ∧ i = rowStoreA k) ∨
        (∃ n : Byte, 0xFF00 + n.toNat = a.toNat ∧ i = .ldh_atA8_a n) ∨
        (0xFF00 + s.regs.c.toNat = a.toNat ∧ i = .ld_atC_a)) →
      exec i s = .fault (.unmodelledDevice { s with faults := .unmodelledDevice a :: s.faults })) ∧
    (∀ i : Instr,
      (i = .inc_atHL ∨ i = .dec_atHL ∨ (∃ op, i = rowRot op .atHL) ∨ (∃ b, i = rowRes b .atHL) ∨
        ∃ b, i = rowSet b .atHL) → s.regs.hl = a →
      exec i s = .fault (.unmodelledDevice { s with
        draws := s.draws + 1, faults := .unmodelledDevice a :: s.faults })) ∧
    (∀ b : Word, b + 1 = a → s.canWrite b = true → exec (.ld_atA16_sp b) s =
      .fault (.unmodelledDevice { s.poke b (s.regs.sp.extractLsb' 0 8) with
        faults := .unmodelledDevice a :: s.faults })) ∧
    ∀ (i : Instr) (v : Word),
      ((∃ r, i = rowPush r ∧ v = s.regs.getStk r) ∨ (∃ b, i = .call_a16 b ∧ v = s.pc) ∨
        (∃ cc b, i = rowCallCond cc b ∧ condHolds cc s.regs.f = true ∧ v = s.pc) ∨ ∃ y, i = rowRst y ∧ v = s.pc) →
      (s.regs.sp - 1 = a → exec i s =
        .fault (.unmodelledDevice { s with
          regs := { s.regs with sp := s.regs.sp - 1 }, faults := .unmodelledDevice a :: s.faults })) ∧
      (s.regs.sp - 2 = a → s.canWrite (s.regs.sp - 1) = true → exec i s =
        .fault (.unmodelledDevice { s.poke (s.regs.sp - 1) (v.extractLsb' 8 8) with
          regs := { s.regs with sp := s.regs.sp - 2 }, faults := .unmodelledDevice a :: s.faults }))

/-! ## Devices -/

/-- R430-R432, R437: with the timer enabled, no overflow pending and the tap last seen as it is, TIMA counts the whole
periods the divider has passed: one per 1024, 16, 64 or 256 invocations, until it would wrap. -/
def Obligations.TimerCounts : Prop :=
  ∀ (t : Timer) (n : Nat), t.tac.getLsbD 2 = true → t.ovfPending = false → t.lastTap = t.tap →
    t.tima.toNat + ((t.divCounter.toNat + n) / timerPeriod (t.tac.toNat % 4) -
      t.divCounter.toNat / timerPeriod (t.tac.toNat % 4)) ≤ 255 →
    (t.run n).tima.toNat = t.tima.toNat + ((t.divCounter.toNat + n) / timerPeriod (t.tac.toNat % 4) -
      t.divCounter.toNat / timerPeriod (t.tac.toNat % 4)) ∧
    (t.run n).ovfPending = false ∧ (t.run n).divCounter = t.divCounter + BitVec.ofNat 16 n

/-- R434, R436: TIMA's wrap arms a window; TIMA reads 0 for three more invocations, and the fourth reloads it from TMA,
requests the timer interrupt and then counts an edge that falls in that same invocation. -/
def Obligations.TimerOverflow : Prop :=
  (∀ t : Timer, t.ovfPending = false → t.lastTap = true → t.count.tap = false → t.tima = 0xFF →
    t.invoke.tima = 0x00 ∧ t.invoke.ovfPending = true ∧ t.invoke.ovfStep = 0 ∧ t.invoke.reloadArmed = true ∧
    t.invoke.irqArmed = true ∧ t.requests = false) ∧
  ∀ s : State, s.timer.ovfPending = true → s.timer.ovfStep = 0 → s.timer.reloadArmed = true → s.timer.irqArmed = true →
    (∀ n, n ≤ 3 → (timerRun n s).timer.tima = s.timer.tima ∧ (timerRun n s).iflag = s.iflag ∧
      (timerRun n s).timer.ovfPending = true) ∧
    (timerRun 4 s).iflag = s.iflag ||| 0b00100 ∧
    (timerRun 4 s).timer.tima =
      if (timerRun 3 s).timer.lastTap = true ∧ (timerRun 3 s).timer.count.tap = false then s.timer.tma + 1
      else s.timer.tma

/-- R440-R442: with LCDC bit 7 on, the position in the frame advances by the dots, modulo the frame; a frame of the
decided parameters is 70224 dots. With it off, line and dot are 0, the mode is OAM_SEARCH and the fetcher is at line
start. -/
def Obligations.FramePosition : Prop :=
  (∀ (s : State) (n : Nat), s.lcdc.getLsbD 7 = true → s.devicesWf = true →
    (ppuTick n s).ppu.line.toNat * s.params.dotsPerLine + (ppuTick n s).ppu.dot.toNat =
      (s.ppu.line.toNat * s.params.dotsPerLine + s.ppu.dot.toNat + n) %
        (s.params.dotsPerLine * s.params.linesPerFrame)) ∧
  Config.decided.dotsPerLine * Config.decided.linesPerFrame = 70224 ∧
  ∀ (s : State) (n : Nat), s.lcdc.getLsbD 7 = false →
    ppuTick n s = { s with ppu := { s.ppu with
      dot := 0, line := 0, mode := .oamSearch, phase := .readTileId, fetchDiv := false, col := 0, queue := [] } }

/-- R441, R443, R446: a dot sets IF bit 0 exactly when it takes the controller into V-blank, which is on entering the
first non-visible line; no other dot changes IF. -/
def Obligations.VBlankRequest : Prop :=
  ∀ s : State, s.devicesWf = true →
    ((ppuDotStep s).ppu.mode = .vblank ∧ s.ppu.mode ≠ .vblank ↔
      (ppuDotStep s).ppu.line.toNat = s.params.visibleLines ∧ (ppuDotStep s).ppu.dot = 0) ∧
    (ppuDotStep s).iflag =
      if (ppuDotStep s).ppu.line.toNat = s.params.visibleLines ∧ (ppuDotStep s).ppu.dot = 0 then s.iflag ||| 0b00001
      else s.iflag

/-- R441, R445, R447, R448: the fetcher refills in batches of exactly 8, only at or below the threshold, and a dot leaves
at most threshold + 7 pixels queued, the spec's own inference from R441, R445 and R447 (within the dot it can be one more). -/
def Obligations.FetcherBatches : Prop :=
  (∀ (threshold : Nat) (lcdc : Byte) (vram : Mem) (u : Ppu),
    (u.fetcherInvoke threshold lcdc vram).queue = u.queue ∨
    (u.queue.length ≤ threshold ∧
      ∃ batch, batch.length = 8 ∧ (u.fetcherInvoke threshold lcdc vram).queue = u.queue ++ batch)) ∧
  ∀ (p : Params) (lcdc : Byte) (vram : Mem) (u : Ppu), u.queue.length ≤ p.fetchQueueThreshold + 7 →
    (u.dotStep p lcdc vram).queue.length ≤ p.fetchQueueThreshold + 7
end

