-- ==== Sys2Proof/Laws/Mem.lean ====
section
/-! SUPPORT. Byte storage: read after write, and that every storage operation keeps the canonical form and the set of
addresses a store may list. -/

namespace Sys2Proof.Machine

/-! ## Reads after the storage operations -/

theorem Mem.read_erase_same (m : Mem) (a : Nat) : (m.erase a).read a = Config.unlisted := by
  induction m with
  | nil => rfl
  | cons c m ih =>
    obtain ⟨k, v⟩ := c
    by_cases h : k = a <;> simp [Mem.erase, Mem.read, h, ih]

theorem Mem.read_erase_other (m : Mem) {a b : Nat} (hab : a ≠ b) : (m.erase a).read b = m.read b := by
  induction m with
  | nil => rfl
  | cons c m ih =>
    obtain ⟨k, v⟩ := c
    by_cases h : k = a
    · subst h; simp [Mem.erase, Mem.read, hab, ih]
    · simp [Mem.erase, Mem.read, h, ih]

theorem Mem.read_insert_same (m : Mem) (a : Nat) (v : Byte) (h : ∀ c ∈ m, c.1 ≠ a) : (m.insert a v).read a = v := by
  induction m with
  | nil => simp [Mem.insert, Mem.read]
  | cons c m ih =>
    obtain ⟨k, w⟩ := c
    have hk : k ≠ a := h (k, w) (by simp)
    have ih' := ih fun c hc => h c (by simp [hc])
    by_cases hlt : a < k <;> simp [Mem.insert, Mem.read, hlt, hk, ih']

theorem Mem.read_insert_other (m : Mem) {a b : Nat} (v : Byte) (hab : a ≠ b) : (m.insert a v).read b = m.read b := by
  induction m with
  | nil => simp [Mem.insert, Mem.read, hab]
  | cons c m ih =>
    obtain ⟨k, w⟩ := c
    by_cases hlt : a < k <;> simp [Mem.insert, Mem.read, hlt, hab, ih]

theorem Mem.erase_avoids (m : Mem) (a : Nat) : ∀ c ∈ m.erase a, c.1 ≠ a := by
  induction m with
  | nil => simp [Mem.erase]
  | cons c m ih =>
    obtain ⟨k, v⟩ := c
    by_cases h : k = a
    · simpa [Mem.erase, h] using ih
    · simp only [Mem.erase, h, if_false, List.mem_cons]
      rintro c (rfl | hc)
      · exact h
      · exact ih c hc

/-- A read of the byte just written. -/
@[simp] theorem Mem.read_write_same (m : Mem) (a : Nat) (v : Byte) : (m.write a v).read a = v := by
  unfold Mem.write
  split
  · next h => rw [Mem.read_erase_same, h]
  · exact Mem.read_insert_same _ a v (Mem.erase_avoids m a)

/-- A write changes no other byte. -/
theorem Mem.read_write_other (m : Mem) {a b : Nat} (v : Byte) (hab : a ≠ b) : (m.write a v).read b = m.read b := by
  unfold Mem.write
  split
  · exact Mem.read_erase_other m hab
  · rw [Mem.read_insert_other _ v hab, Mem.read_erase_other m hab]

/-! ## The canonical form -/

theorem Mem.risingFrom_weaken {lo lo' : Nat} (hle : lo' ≤ lo) {m : Mem} (h : m.risingFrom lo = true) :
    m.risingFrom lo' = true := by
  cases m with
  | nil => rfl
  | cons c m =>
    simp only [Mem.risingFrom, Bool.and_eq_true, decide_eq_true_eq] at h ⊢
    exact ⟨⟨by omega, h.1.2⟩, h.2⟩

theorem Mem.risingFrom_erase {m : Mem} {lo : Nat} (a : Nat) (h : m.risingFrom lo = true) :
    (m.erase a).risingFrom lo = true := by
  induction m generalizing lo with
  | nil => rfl
  | cons c m ih =>
    obtain ⟨k, v⟩ := c
    simp only [Mem.risingFrom, Bool.and_eq_true, decide_eq_true_eq] at h
    unfold Mem.erase
    split
    · exact ih (Mem.risingFrom_weaken (by omega) h.2)
    · simp only [Mem.risingFrom, Bool.and_eq_true, decide_eq_true_eq]
      exact ⟨h.1, ih h.2⟩

theorem Mem.risingFrom_insert {m : Mem} {lo a : Nat} {v : Byte} (h : m.risingFrom lo = true) (hlo : lo ≤ a)
    (hv : v ≠ Config.unlisted) (ha : ∀ c ∈ m, c.1 ≠ a) : (m.insert a v).risingFrom lo = true := by
  induction m generalizing lo with
  | nil => simp [Mem.insert, Mem.risingFrom, hlo, hv]
  | cons c m ih =>
    obtain ⟨k, w⟩ := c
    have hka : k ≠ a := ha (k, w) (by simp)
    simp only [Mem.risingFrom, Bool.and_eq_true, decide_eq_true_eq] at h
    unfold Mem.insert
    split
    · next hlt =>
      simp only [Mem.risingFrom, Bool.and_eq_true, decide_eq_true_eq]
      exact ⟨⟨hlo, hv⟩, ⟨by omega, h.1.2⟩, h.2⟩
    · simp only [Mem.risingFrom, Bool.and_eq_true, decide_eq_true_eq]
      exact ⟨h.1, ih h.2 (by omega) fun c hc => ha c (by simp [hc])⟩

/-- Every write keeps the canonical form. -/
theorem Mem.wf_write {m : Mem} (a : Nat) (v : Byte) (h : m.wf = true) : (m.write a v).wf = true := by
  unfold Mem.write
  split
  · exact Mem.risingFrom_erase a h
  · next hv => exact Mem.risingFrom_insert (Mem.risingFrom_erase a h) (Nat.zero_le a) hv (Mem.erase_avoids m a)

theorem Mem.wf_erase {m : Mem} (a : Nat) (h : m.wf = true) : (m.erase a).wf = true := Mem.risingFrom_erase a h

/-! ## The addresses listed -/

theorem Mem.within_erase {p : Nat → Bool} {m : Mem} (a : Nat) (h : m.within p = true) : (m.erase a).within p = true := by
  induction m with
  | nil => rfl
  | cons c m ih =>
    obtain ⟨k, v⟩ := c
    simp only [Mem.within, List.all_cons, Bool.and_eq_true] at h
    unfold Mem.erase
    split
    · exact ih h.2
    · simp only [Mem.within, List.all_cons, Bool.and_eq_true]
      exact ⟨h.1, ih h.2⟩

theorem Mem.within_insert {p : Nat → Bool} {m : Mem} {a : Nat} (v : Byte) (h : m.within p = true) (ha : p a = true) :
    (m.insert a v).within p = true := by
  induction m with
  | nil => simp [Mem.insert, Mem.within, ha]
  | cons c m ih =>
    obtain ⟨k, w⟩ := c
    simp only [Mem.within, List.all_cons, Bool.and_eq_true] at h
    unfold Mem.insert
    split
    · simp only [Mem.within, List.all_cons, Bool.and_eq_true]
      exact ⟨ha, h⟩
    · simp only [Mem.within, List.all_cons, Bool.and_eq_true]
      exact ⟨h.1, ih h.2⟩

/-- A write at an allowed address lists allowed addresses only. -/
theorem Mem.within_write {p : Nat → Bool} {m : Mem} {a : Nat} (v : Byte) (h : m.within p = true) (ha : p a = true) :
    (m.write a v).within p = true := by
  unfold Mem.write
  split
  · exact Mem.within_erase a h
  · exact Mem.within_insert v (Mem.within_erase a h) ha

end Sys2Proof.Machine
end

