-- ==== Sys2Proof/Laws/State.lean ====
section
/-! SUPPORT. One lemma per field per update of State, so that no proof unfolds a record update: the register and PC
updates, the step's bookkeeping, a read, a store, a recorded fault. -/

namespace Sys2Proof.Machine

/-! ## set8 -/

@[simp] theorem State.set8_pc (s : State) (x : R8) (v : Byte) : (s.set8 x v).pc = s.pc := rfl
@[simp] theorem State.set8_ime (s : State) (x : R8) (v : Byte) : (s.set8 x v).ime = s.ime := rfl
@[simp] theorem State.set8_eiPending (s : State) (x : R8) (v : Byte) : (s.set8 x v).eiPending = s.eiPending := rfl
@[simp] theorem State.set8_runState (s : State) (x : R8) (v : Byte) : (s.set8 x v).runState = s.runState := rfl
@[simp] theorem State.set8_haltBug (s : State) (x : R8) (v : Byte) : (s.set8 x v).haltBug = s.haltBug := rfl
@[simp] theorem State.set8_ie (s : State) (x : R8) (v : Byte) : (s.set8 x v).ie = s.ie := rfl
@[simp] theorem State.set8_iflag (s : State) (x : R8) (v : Byte) : (s.set8 x v).iflag = s.iflag := rfl
@[simp] theorem State.set8_lcdc (s : State) (x : R8) (v : Byte) : (s.set8 x v).lcdc = s.lcdc := rfl
@[simp] theorem State.set8_bootRomMapped (s : State) (x : R8) (v : Byte) : (s.set8 x v).bootRomMapped = s.bootRomMapped := rfl
@[simp] theorem State.set8_timer (s : State) (x : R8) (v : Byte) : (s.set8 x v).timer = s.timer := rfl
@[simp] theorem State.set8_ppu (s : State) (x : R8) (v : Byte) : (s.set8 x v).ppu = s.ppu := rfl
@[simp] theorem State.set8_io (s : State) (x : R8) (v : Byte) : (s.set8 x v).io = s.io := rfl
@[simp] theorem State.set8_ram (s : State) (x : R8) (v : Byte) : (s.set8 x v).ram = s.ram := rfl
@[simp] theorem State.set8_bootRom (s : State) (x : R8) (v : Byte) : (s.set8 x v).bootRom = s.bootRom := rfl
@[simp] theorem State.set8_cartRom (s : State) (x : R8) (v : Byte) : (s.set8 x v).cartRom = s.cartRom := rfl
@[simp] theorem State.set8_breakpoint (s : State) (x : R8) (v : Byte) : (s.set8 x v).breakpoint = s.breakpoint := rfl
@[simp] theorem State.set8_breakHit (s : State) (x : R8) (v : Byte) : (s.set8 x v).breakHit = s.breakHit := rfl
@[simp] theorem State.set8_faults (s : State) (x : R8) (v : Byte) : (s.set8 x v).faults = s.faults := rfl
@[simp] theorem State.set8_params (s : State) (x : R8) (v : Byte) : (s.set8 x v).params = s.params := rfl
@[simp] theorem State.set8_draws (s : State) (x : R8) (v : Byte) : (s.set8 x v).draws = s.draws := rfl
@[simp] theorem State.set8_stepCycles (s : State) (x : R8) (v : Byte) : (s.set8 x v).stepCycles = s.stepCycles := rfl
@[simp] theorem State.set8_opAddr (s : State) (x : R8) (v : Byte) : (s.set8 x v).opAddr = s.opAddr := rfl

@[simp] theorem State.set8_regs (s : State) (x : R8) (v : Byte) : (s.set8 x v).regs = s.regs.set8 x v := rfl

/-! ## set16 -/

@[simp] theorem State.set16_pc (s : State) (x : R16) (v : Word) : (s.set16 x v).pc = s.pc := rfl
@[simp] theorem State.set16_ime (s : State) (x : R16) (v : Word) : (s.set16 x v).ime = s.ime := rfl
@[simp] theorem State.set16_eiPending (s : State) (x : R16) (v : Word) : (s.set16 x v).eiPending = s.eiPending := rfl
@[simp] theorem State.set16_runState (s : State) (x : R16) (v : Word) : (s.set16 x v).runState = s.runState := rfl
@[simp] theorem State.set16_haltBug (s : State) (x : R16) (v : Word) : (s.set16 x v).haltBug = s.haltBug := rfl
@[simp] theorem State.set16_ie (s : State) (x : R16) (v : Word) : (s.set16 x v).ie = s.ie := rfl
@[simp] theorem State.set16_iflag (s : State) (x : R16) (v : Word) : (s.set16 x v).iflag = s.iflag := rfl
@[simp] theorem State.set16_lcdc (s : State) (x : R16) (v : Word) : (s.set16 x v).lcdc = s.lcdc := rfl
@[simp] theorem State.set16_bootRomMapped (s : State) (x : R16) (v : Word) : (s.set16 x v).bootRomMapped = s.bootRomMapped := rfl
@[simp] theorem State.set16_timer (s : State) (x : R16) (v : Word) : (s.set16 x v).timer = s.timer := rfl
@[simp] theorem State.set16_ppu (s : State) (x : R16) (v : Word) : (s.set16 x v).ppu = s.ppu := rfl
@[simp] theorem State.set16_io (s : State) (x : R16) (v : Word) : (s.set16 x v).io = s.io := rfl
@[simp] theorem State.set16_ram (s : State) (x : R16) (v : Word) : (s.set16 x v).ram = s.ram := rfl
@[simp] theorem State.set16_bootRom (s : State) (x : R16) (v : Word) : (s.set16 x v).bootRom = s.bootRom := rfl
@[simp] theorem State.set16_cartRom (s : State) (x : R16) (v : Word) : (s.set16 x v).cartRom = s.cartRom := rfl
@[simp] theorem State.set16_breakpoint (s : State) (x : R16) (v : Word) : (s.set16 x v).breakpoint = s.breakpoint := rfl
@[simp] theorem State.set16_breakHit (s : State) (x : R16) (v : Word) : (s.set16 x v).breakHit = s.breakHit := rfl
@[simp] theorem State.set16_faults (s : State) (x : R16) (v : Word) : (s.set16 x v).faults = s.faults := rfl
@[simp] theorem State.set16_params (s : State) (x : R16) (v : Word) : (s.set16 x v).params = s.params := rfl
@[simp] theorem State.set16_draws (s : State) (x : R16) (v : Word) : (s.set16 x v).draws = s.draws := rfl
@[simp] theorem State.set16_stepCycles (s : State) (x : R16) (v : Word) : (s.set16 x v).stepCycles = s.stepCycles := rfl
@[simp] theorem State.set16_opAddr (s : State) (x : R16) (v : Word) : (s.set16 x v).opAddr = s.opAddr := rfl

@[simp] theorem State.set16_regs (s : State) (x : R16) (v : Word) : (s.set16 x v).regs = s.regs.set16 x v := rfl

/-! ## setStk -/

@[simp] theorem State.setStk_pc (s : State) (x : R16Stk) (v : Word) : (s.setStk x v).pc = s.pc := rfl
@[simp] theorem State.setStk_ime (s : State) (x : R16Stk) (v : Word) : (s.setStk x v).ime = s.ime := rfl
@[simp] theorem State.setStk_eiPending (s : State) (x : R16Stk) (v : Word) : (s.setStk x v).eiPending = s.eiPending := rfl
@[simp] theorem State.setStk_runState (s : State) (x : R16Stk) (v : Word) : (s.setStk x v).runState = s.runState := rfl
@[simp] theorem State.setStk_haltBug (s : State) (x : R16Stk) (v : Word) : (s.setStk x v).haltBug = s.haltBug := rfl
@[simp] theorem State.setStk_ie (s : State) (x : R16Stk) (v : Word) : (s.setStk x v).ie = s.ie := rfl
@[simp] theorem State.setStk_iflag (s : State) (x : R16Stk) (v : Word) : (s.setStk x v).iflag = s.iflag := rfl
@[simp] theorem State.setStk_lcdc (s : State) (x : R16Stk) (v : Word) : (s.setStk x v).lcdc = s.lcdc := rfl
@[simp] theorem State.setStk_bootRomMapped (s : State) (x : R16Stk) (v : Word) : (s.setStk x v).bootRomMapped = s.bootRomMapped := rfl
@[simp] theorem State.setStk_timer (s : State) (x : R16Stk) (v : Word) : (s.setStk x v).timer = s.timer := rfl
@[simp] theorem State.setStk_ppu (s : State) (x : R16Stk) (v : Word) : (s.setStk x v).ppu = s.ppu := rfl
@[simp] theorem State.setStk_io (s : State) (x : R16Stk) (v : Word) : (s.setStk x v).io = s.io := rfl
@[simp] theorem State.setStk_ram (s : State) (x : R16Stk) (v : Word) : (s.setStk x v).ram = s.ram := rfl
@[simp] theorem State.setStk_bootRom (s : State) (x : R16Stk) (v : Word) : (s.setStk x v).bootRom = s.bootRom := rfl
@[simp] theorem State.setStk_cartRom (s : State) (x : R16Stk) (v : Word) : (s.setStk x v).cartRom = s.cartRom := rfl
@[simp] theorem State.setStk_breakpoint (s : State) (x : R16Stk) (v : Word) : (s.setStk x v).breakpoint = s.breakpoint := rfl
@[simp] theorem State.setStk_breakHit (s : State) (x : R16Stk) (v : Word) : (s.setStk x v).breakHit = s.breakHit := rfl
@[simp] theorem State.setStk_faults (s : State) (x : R16Stk) (v : Word) : (s.setStk x v).faults = s.faults := rfl
@[simp] theorem State.setStk_params (s : State) (x : R16Stk) (v : Word) : (s.setStk x v).params = s.params := rfl
@[simp] theorem State.setStk_draws (s : State) (x : R16Stk) (v : Word) : (s.setStk x v).draws = s.draws := rfl
@[simp] theorem State.setStk_stepCycles (s : State) (x : R16Stk) (v : Word) : (s.setStk x v).stepCycles = s.stepCycles := rfl
@[simp] theorem State.setStk_opAddr (s : State) (x : R16Stk) (v : Word) : (s.setStk x v).opAddr = s.opAddr := rfl

@[simp] theorem State.setStk_regs (s : State) (x : R16Stk) (v : Word) : (s.setStk x v).regs = s.regs.setStk x v := rfl

/-! ## setA -/

@[simp] theorem State.setA_pc (s : State) (v : Byte) : (s.setA v).pc = s.pc := rfl
@[simp] theorem State.setA_ime (s : State) (v : Byte) : (s.setA v).ime = s.ime := rfl
@[simp] theorem State.setA_eiPending (s : State) (v : Byte) : (s.setA v).eiPending = s.eiPending := rfl
@[simp] theorem State.setA_runState (s : State) (v : Byte) : (s.setA v).runState = s.runState := rfl
@[simp] theorem State.setA_haltBug (s : State) (v : Byte) : (s.setA v).haltBug = s.haltBug := rfl
@[simp] theorem State.setA_ie (s : State) (v : Byte) : (s.setA v).ie = s.ie := rfl
@[simp] theorem State.setA_iflag (s : State) (v : Byte) : (s.setA v).iflag = s.iflag := rfl
@[simp] theorem State.setA_lcdc (s : State) (v : Byte) : (s.setA v).lcdc = s.lcdc := rfl
@[simp] theorem State.setA_bootRomMapped (s : State) (v : Byte) : (s.setA v).bootRomMapped = s.bootRomMapped := rfl
@[simp] theorem State.setA_timer (s : State) (v : Byte) : (s.setA v).timer = s.timer := rfl
@[simp] theorem State.setA_ppu (s : State) (v : Byte) : (s.setA v).ppu = s.ppu := rfl
@[simp] theorem State.setA_io (s : State) (v : Byte) : (s.setA v).io = s.io := rfl
@[simp] theorem State.setA_ram (s : State) (v : Byte) : (s.setA v).ram = s.ram := rfl
@[simp] theorem State.setA_bootRom (s : State) (v : Byte) : (s.setA v).bootRom = s.bootRom := rfl
@[simp] theorem State.setA_cartRom (s : State) (v : Byte) : (s.setA v).cartRom = s.cartRom := rfl
@[simp] theorem State.setA_breakpoint (s : State) (v : Byte) : (s.setA v).breakpoint = s.breakpoint := rfl
@[simp] theorem State.setA_breakHit (s : State) (v : Byte) : (s.setA v).breakHit = s.breakHit := rfl
@[simp] theorem State.setA_faults (s : State) (v : Byte) : (s.setA v).faults = s.faults := rfl
@[simp] theorem State.setA_params (s : State) (v : Byte) : (s.setA v).params = s.params := rfl
@[simp] theorem State.setA_draws (s : State) (v : Byte) : (s.setA v).draws = s.draws := rfl
@[simp] theorem State.setA_stepCycles (s : State) (v : Byte) : (s.setA v).stepCycles = s.stepCycles := rfl
@[simp] theorem State.setA_opAddr (s : State) (v : Byte) : (s.setA v).opAddr = s.opAddr := rfl

@[simp] theorem State.setA_regs (s : State) (v : Byte) : (s.setA v).regs = { s.regs with a := v } := rfl

/-! ## setHL -/

@[simp] theorem State.setHL_pc (s : State) (v : Word) : (s.setHL v).pc = s.pc := rfl
@[simp] theorem State.setHL_ime (s : State) (v : Word) : (s.setHL v).ime = s.ime := rfl
@[simp] theorem State.setHL_eiPending (s : State) (v : Word) : (s.setHL v).eiPending = s.eiPending := rfl
@[simp] theorem State.setHL_runState (s : State) (v : Word) : (s.setHL v).runState = s.runState := rfl
@[simp] theorem State.setHL_haltBug (s : State) (v : Word) : (s.setHL v).haltBug = s.haltBug := rfl
@[simp] theorem State.setHL_ie (s : State) (v : Word) : (s.setHL v).ie = s.ie := rfl
@[simp] theorem State.setHL_iflag (s : State) (v : Word) : (s.setHL v).iflag = s.iflag := rfl
@[simp] theorem State.setHL_lcdc (s : State) (v : Word) : (s.setHL v).lcdc = s.lcdc := rfl
@[simp] theorem State.setHL_bootRomMapped (s : State) (v : Word) : (s.setHL v).bootRomMapped = s.bootRomMapped := rfl
@[simp] theorem State.setHL_timer (s : State) (v : Word) : (s.setHL v).timer = s.timer := rfl
@[simp] theorem State.setHL_ppu (s : State) (v : Word) : (s.setHL v).ppu = s.ppu := rfl
@[simp] theorem State.setHL_io (s : State) (v : Word) : (s.setHL v).io = s.io := rfl
@[simp] theorem State.setHL_ram (s : State) (v : Word) : (s.setHL v).ram = s.ram := rfl
@[simp] theorem State.setHL_bootRom (s : State) (v : Word) : (s.setHL v).bootRom = s.bootRom := rfl
@[simp] theorem State.setHL_cartRom (s : State) (v : Word) : (s.setHL v).cartRom = s.cartRom := rfl
@[simp] theorem State.setHL_breakpoint (s : State) (v : Word) : (s.setHL v).breakpoint = s.breakpoint := rfl
@[simp] theorem State.setHL_breakHit (s : State) (v : Word) : (s.setHL v).breakHit = s.breakHit := rfl
@[simp] theorem State.setHL_faults (s : State) (v : Word) : (s.setHL v).faults = s.faults := rfl
@[simp] theorem State.setHL_params (s : State) (v : Word) : (s.setHL v).params = s.params := rfl
@[simp] theorem State.setHL_draws (s : State) (v : Word) : (s.setHL v).draws = s.draws := rfl
@[simp] theorem State.setHL_stepCycles (s : State) (v : Word) : (s.setHL v).stepCycles = s.stepCycles := rfl
@[simp] theorem State.setHL_opAddr (s : State) (v : Word) : (s.setHL v).opAddr = s.opAddr := rfl

@[simp] theorem State.setHL_regs (s : State) (v : Word) : (s.setHL v).regs = s.regs.setHL v := rfl

/-! ## setSP -/

@[simp] theorem State.setSP_pc (s : State) (v : Word) : (s.setSP v).pc = s.pc := rfl
@[simp] theorem State.setSP_ime (s : State) (v : Word) : (s.setSP v).ime = s.ime := rfl
@[simp] theorem State.setSP_eiPending (s : State) (v : Word) : (s.setSP v).eiPending = s.eiPending := rfl
@[simp] theorem State.setSP_runState (s : State) (v : Word) : (s.setSP v).runState = s.runState := rfl
@[simp] theorem State.setSP_haltBug (s : State) (v : Word) : (s.setSP v).haltBug = s.haltBug := rfl
@[simp] theorem State.setSP_ie (s : State) (v : Word) : (s.setSP v).ie = s.ie := rfl
@[simp] theorem State.setSP_iflag (s : State) (v : Word) : (s.setSP v).iflag = s.iflag := rfl
@[simp] theorem State.setSP_lcdc (s : State) (v : Word) : (s.setSP v).lcdc = s.lcdc := rfl
@[simp] theorem State.setSP_bootRomMapped (s : State) (v : Word) : (s.setSP v).bootRomMapped = s.bootRomMapped := rfl
@[simp] theorem State.setSP_timer (s : State) (v : Word) : (s.setSP v).timer = s.timer := rfl
@[simp] theorem State.setSP_ppu (s : State) (v : Word) : (s.setSP v).ppu = s.ppu := rfl
@[simp] theorem State.setSP_io (s : State) (v : Word) : (s.setSP v).io = s.io := rfl
@[simp] theorem State.setSP_ram (s : State) (v : Word) : (s.setSP v).ram = s.ram := rfl
@[simp] theorem State.setSP_bootRom (s : State) (v : Word) : (s.setSP v).bootRom = s.bootRom := rfl
@[simp] theorem State.setSP_cartRom (s : State) (v : Word) : (s.setSP v).cartRom = s.cartRom := rfl
@[simp] theorem State.setSP_breakpoint (s : State) (v : Word) : (s.setSP v).breakpoint = s.breakpoint := rfl
@[simp] theorem State.setSP_breakHit (s : State) (v : Word) : (s.setSP v).breakHit = s.breakHit := rfl
@[simp] theorem State.setSP_faults (s : State) (v : Word) : (s.setSP v).faults = s.faults := rfl
@[simp] theorem State.setSP_params (s : State) (v : Word) : (s.setSP v).params = s.params := rfl
@[simp] theorem State.setSP_draws (s : State) (v : Word) : (s.setSP v).draws = s.draws := rfl
@[simp] theorem State.setSP_stepCycles (s : State) (v : Word) : (s.setSP v).stepCycles = s.stepCycles := rfl
@[simp] theorem State.setSP_opAddr (s : State) (v : Word) : (s.setSP v).opAddr = s.opAddr := rfl

@[simp] theorem State.setSP_regs (s : State) (v : Word) : (s.setSP v).regs = { s.regs with sp := v } := rfl

/-! ## setF -/

@[simp] theorem State.setF_pc (s : State) (f : Flags) : (s.setF f).pc = s.pc := rfl
@[simp] theorem State.setF_ime (s : State) (f : Flags) : (s.setF f).ime = s.ime := rfl
@[simp] theorem State.setF_eiPending (s : State) (f : Flags) : (s.setF f).eiPending = s.eiPending := rfl
@[simp] theorem State.setF_runState (s : State) (f : Flags) : (s.setF f).runState = s.runState := rfl
@[simp] theorem State.setF_haltBug (s : State) (f : Flags) : (s.setF f).haltBug = s.haltBug := rfl
@[simp] theorem State.setF_ie (s : State) (f : Flags) : (s.setF f).ie = s.ie := rfl
@[simp] theorem State.setF_iflag (s : State) (f : Flags) : (s.setF f).iflag = s.iflag := rfl
@[simp] theorem State.setF_lcdc (s : State) (f : Flags) : (s.setF f).lcdc = s.lcdc := rfl
@[simp] theorem State.setF_bootRomMapped (s : State) (f : Flags) : (s.setF f).bootRomMapped = s.bootRomMapped := rfl
@[simp] theorem State.setF_timer (s : State) (f : Flags) : (s.setF f).timer = s.timer := rfl
@[simp] theorem State.setF_ppu (s : State) (f : Flags) : (s.setF f).ppu = s.ppu := rfl
@[simp] theorem State.setF_io (s : State) (f : Flags) : (s.setF f).io = s.io := rfl
@[simp] theorem State.setF_ram (s : State) (f : Flags) : (s.setF f).ram = s.ram := rfl
@[simp] theorem State.setF_bootRom (s : State) (f : Flags) : (s.setF f).bootRom = s.bootRom := rfl
@[simp] theorem State.setF_cartRom (s : State) (f : Flags) : (s.setF f).cartRom = s.cartRom := rfl
@[simp] theorem State.setF_breakpoint (s : State) (f : Flags) : (s.setF f).breakpoint = s.breakpoint := rfl
@[simp] theorem State.setF_breakHit (s : State) (f : Flags) : (s.setF f).breakHit = s.breakHit := rfl
@[simp] theorem State.setF_faults (s : State) (f : Flags) : (s.setF f).faults = s.faults := rfl
@[simp] theorem State.setF_params (s : State) (f : Flags) : (s.setF f).params = s.params := rfl
@[simp] theorem State.setF_draws (s : State) (f : Flags) : (s.setF f).draws = s.draws := rfl
@[simp] theorem State.setF_stepCycles (s : State) (f : Flags) : (s.setF f).stepCycles = s.stepCycles := rfl
@[simp] theorem State.setF_opAddr (s : State) (f : Flags) : (s.setF f).opAddr = s.opAddr := rfl

@[simp] theorem State.setF_regs (s : State) (f : Flags) : (s.setF f).regs = { s.regs with f := f } := rfl

/-! ## setPC -/

@[simp] theorem State.setPC_regs (s : State) (v : Word) : (s.setPC v).regs = s.regs := rfl
@[simp] theorem State.setPC_ime (s : State) (v : Word) : (s.setPC v).ime = s.ime := rfl
@[simp] theorem State.setPC_eiPending (s : State) (v : Word) : (s.setPC v).eiPending = s.eiPending := rfl
@[simp] theorem State.setPC_runState (s : State) (v : Word) : (s.setPC v).runState = s.runState := rfl
@[simp] theorem State.setPC_haltBug (s : State) (v : Word) : (s.setPC v).haltBug = s.haltBug := rfl
@[simp] theorem State.setPC_ie (s : State) (v : Word) : (s.setPC v).ie = s.ie := rfl
@[simp] theorem State.setPC_iflag (s : State) (v : Word) : (s.setPC v).iflag = s.iflag := rfl
@[simp] theorem State.setPC_lcdc (s : State) (v : Word) : (s.setPC v).lcdc = s.lcdc := rfl
@[simp] theorem State.setPC_bootRomMapped (s : State) (v : Word) : (s.setPC v).bootRomMapped = s.bootRomMapped := rfl
@[simp] theorem State.setPC_timer (s : State) (v : Word) : (s.setPC v).timer = s.timer := rfl
@[simp] theorem State.setPC_ppu (s : State) (v : Word) : (s.setPC v).ppu = s.ppu := rfl
@[simp] theorem State.setPC_io (s : State) (v : Word) : (s.setPC v).io = s.io := rfl
@[simp] theorem State.setPC_ram (s : State) (v : Word) : (s.setPC v).ram = s.ram := rfl
@[simp] theorem State.setPC_bootRom (s : State) (v : Word) : (s.setPC v).bootRom = s.bootRom := rfl
@[simp] theorem State.setPC_cartRom (s : State) (v : Word) : (s.setPC v).cartRom = s.cartRom := rfl
@[simp] theorem State.setPC_breakpoint (s : State) (v : Word) : (s.setPC v).breakpoint = s.breakpoint := rfl
@[simp] theorem State.setPC_breakHit (s : State) (v : Word) : (s.setPC v).breakHit = s.breakHit := rfl
@[simp] theorem State.setPC_faults (s : State) (v : Word) : (s.setPC v).faults = s.faults := rfl
@[simp] theorem State.setPC_params (s : State) (v : Word) : (s.setPC v).params = s.params := rfl
@[simp] theorem State.setPC_draws (s : State) (v : Word) : (s.setPC v).draws = s.draws := rfl
@[simp] theorem State.setPC_stepCycles (s : State) (v : Word) : (s.setPC v).stepCycles = s.stepCycles := rfl
@[simp] theorem State.setPC_opAddr (s : State) (v : Word) : (s.setPC v).opAddr = s.opAddr := rfl

@[simp] theorem State.setPC_pc (s : State) (v : Word) : (s.setPC v).pc = v := rfl

/-! ## took -/

@[simp] theorem State.took_regs (s : State) (n : Nat) : (s.took n).regs = s.regs := rfl
@[simp] theorem State.took_pc (s : State) (n : Nat) : (s.took n).pc = s.pc := rfl
@[simp] theorem State.took_ime (s : State) (n : Nat) : (s.took n).ime = s.ime := rfl
@[simp] theorem State.took_eiPending (s : State) (n : Nat) : (s.took n).eiPending = s.eiPending := rfl
@[simp] theorem State.took_runState (s : State) (n : Nat) : (s.took n).runState = s.runState := rfl
@[simp] theorem State.took_haltBug (s : State) (n : Nat) : (s.took n).haltBug = s.haltBug := rfl
@[simp] theorem State.took_ie (s : State) (n : Nat) : (s.took n).ie = s.ie := rfl
@[simp] theorem State.took_iflag (s : State) (n : Nat) : (s.took n).iflag = s.iflag := rfl
@[simp] theorem State.took_lcdc (s : State) (n : Nat) : (s.took n).lcdc = s.lcdc := rfl
@[simp] theorem State.took_bootRomMapped (s : State) (n : Nat) : (s.took n).bootRomMapped = s.bootRomMapped := rfl
@[simp] theorem State.took_timer (s : State) (n : Nat) : (s.took n).timer = s.timer := rfl
@[simp] theorem State.took_ppu (s : State) (n : Nat) : (s.took n).ppu = s.ppu := rfl
@[simp] theorem State.took_io (s : State) (n : Nat) : (s.took n).io = s.io := rfl
@[simp] theorem State.took_ram (s : State) (n : Nat) : (s.took n).ram = s.ram := rfl
@[simp] theorem State.took_bootRom (s : State) (n : Nat) : (s.took n).bootRom = s.bootRom := rfl
@[simp] theorem State.took_cartRom (s : State) (n : Nat) : (s.took n).cartRom = s.cartRom := rfl
@[simp] theorem State.took_breakpoint (s : State) (n : Nat) : (s.took n).breakpoint = s.breakpoint := rfl
@[simp] theorem State.took_breakHit (s : State) (n : Nat) : (s.took n).breakHit = s.breakHit := rfl
@[simp] theorem State.took_faults (s : State) (n : Nat) : (s.took n).faults = s.faults := rfl
@[simp] theorem State.took_params (s : State) (n : Nat) : (s.took n).params = s.params := rfl
@[simp] theorem State.took_draws (s : State) (n : Nat) : (s.took n).draws = s.draws := rfl
@[simp] theorem State.took_opAddr (s : State) (n : Nat) : (s.took n).opAddr = s.opAddr := rfl
@[simp] theorem State.took_stepCycles (s : State) (n : Nat) : (s.took n).stepCycles = n := rfl

/-! ## recordFault -/

@[simp] theorem recordFault_regs (s : State) (r : FaultRecord) : (recordFault r s).regs = s.regs := rfl
@[simp] theorem recordFault_pc (s : State) (r : FaultRecord) : (recordFault r s).pc = s.pc := rfl
@[simp] theorem recordFault_ime (s : State) (r : FaultRecord) : (recordFault r s).ime = s.ime := rfl
@[simp] theorem recordFault_eiPending (s : State) (r : FaultRecord) : (recordFault r s).eiPending = s.eiPending := rfl
@[simp] theorem recordFault_runState (s : State) (r : FaultRecord) : (recordFault r s).runState = s.runState := rfl
@[simp] theorem recordFault_haltBug (s : State) (r : FaultRecord) : (recordFault r s).haltBug = s.haltBug := rfl
@[simp] theorem recordFault_ie (s : State) (r : FaultRecord) : (recordFault r s).ie = s.ie := rfl
@[simp] theorem recordFault_iflag (s : State) (r : FaultRecord) : (recordFault r s).iflag = s.iflag := rfl
@[simp] theorem recordFault_lcdc (s : State) (r : FaultRecord) : (recordFault r s).lcdc = s.lcdc := rfl
@[simp] theorem recordFault_bootRomMapped (s : State) (r : FaultRecord) : (recordFault r s).bootRomMapped = s.bootRomMapped := rfl
@[simp] theorem recordFault_timer (s : State) (r : FaultRecord) : (recordFault r s).timer = s.timer := rfl
@[simp] theorem recordFault_ppu (s : State) (r : FaultRecord) : (recordFault r s).ppu = s.ppu := rfl
@[simp] theorem recordFault_io (s : State) (r : FaultRecord) : (recordFault r s).io = s.io := rfl
@[simp] theorem recordFault_ram (s : State) (r : FaultRecord) : (recordFault r s).ram = s.ram := rfl
@[simp] theorem recordFault_bootRom (s : State) (r : FaultRecord) : (recordFault r s).bootRom = s.bootRom := rfl
@[simp] theorem recordFault_cartRom (s : State) (r : FaultRecord) : (recordFault r s).cartRom = s.cartRom := rfl
@[simp] theorem recordFault_breakpoint (s : State) (r : FaultRecord) : (recordFault r s).breakpoint = s.breakpoint := rfl
@[simp] theorem recordFault_breakHit (s : State) (r : FaultRecord) : (recordFault r s).breakHit = s.breakHit := rfl
@[simp] theorem recordFault_params (s : State) (r : FaultRecord) : (recordFault r s).params = s.params := rfl
@[simp] theorem recordFault_draws (s : State) (r : FaultRecord) : (recordFault r s).draws = s.draws := rfl
@[simp] theorem recordFault_stepCycles (s : State) (r : FaultRecord) : (recordFault r s).stepCycles = s.stepCycles := rfl
@[simp] theorem recordFault_opAddr (s : State) (r : FaultRecord) : (recordFault r s).opAddr = s.opAddr := rfl
@[simp] theorem recordFault_faults (s : State) (r : FaultRecord) : (recordFault r s).faults = r :: s.faults := rfl

/-! ## afterRead -/

@[simp] theorem State.afterRead_regs (s : State) (a : Word) : (s.afterRead a).regs = s.regs := by unfold State.afterRead; split <;> rfl
@[simp] theorem State.afterRead_pc (s : State) (a : Word) : (s.afterRead a).pc = s.pc := by unfold State.afterRead; split <;> rfl
@[simp] theorem State.afterRead_ime (s : State) (a : Word) : (s.afterRead a).ime = s.ime := by unfold State.afterRead; split <;> rfl
@[simp] theorem State.afterRead_eiPending (s : State) (a : Word) : (s.afterRead a).eiPending = s.eiPending := by unfold State.afterRead; split <;> rfl
@[simp] theorem State.afterRead_runState (s : State) (a : Word) : (s.afterRead a).runState = s.runState := by unfold State.afterRead; split <;> rfl
@[simp] theorem State.afterRead_haltBug (s : State) (a : Word) : (s.afterRead a).haltBug = s.haltBug := by unfold State.afterRead; split <;> rfl
@[simp] theorem State.afterRead_ie (s : State) (a : Word) : (s.afterRead a).ie = s.ie := by unfold State.afterRead; split <;> rfl
@[simp] theorem State.afterRead_iflag (s : State) (a : Word) : (s.afterRead a).iflag = s.iflag := by unfold State.afterRead; split <;> rfl
@[simp] theorem State.afterRead_lcdc (s : State) (a : Word) : (s.afterRead a).lcdc = s.lcdc := by unfold State.afterRead; split <;> rfl
@[simp] theorem State.afterRead_bootRomMapped (s : State) (a : Word) : (s.afterRead a).bootRomMapped = s.bootRomMapped := by unfold State.afterRead; split <;> rfl
@[simp] theorem State.afterRead_timer (s : State) (a : Word) : (s.afterRead a).timer = s.timer := by unfold State.afterRead; split <;> rfl
@[simp] theorem State.afterRead_ppu (s : State) (a : Word) : (s.afterRead a).ppu = s.ppu := by unfold State.afterRead; split <;> rfl
@[simp] theorem State.afterRead_io (s : State) (a : Word) : (s.afterRead a).io = s.io := by unfold State.afterRead; split <;> rfl
@[simp] theorem State.afterRead_ram (s : State) (a : Word) : (s.afterRead a).ram = s.ram := by unfold State.afterRead; split <;> rfl
@[simp] theorem State.afterRead_bootRom (s : State) (a : Word) : (s.afterRead a).bootRom = s.bootRom := by unfold State.afterRead; split <;> rfl
@[simp] theorem State.afterRead_cartRom (s : State) (a : Word) : (s.afterRead a).cartRom = s.cartRom := by unfold State.afterRead; split <;> rfl
@[simp] theorem State.afterRead_breakpoint (s : State) (a : Word) : (s.afterRead a).breakpoint = s.breakpoint := by unfold State.afterRead; split <;> rfl
@[simp] theorem State.afterRead_breakHit (s : State) (a : Word) : (s.afterRead a).breakHit = s.breakHit := by unfold State.afterRead; split <;> rfl
@[simp] theorem State.afterRead_faults (s : State) (a : Word) : (s.afterRead a).faults = s.faults := by unfold State.afterRead; split <;> rfl
@[simp] theorem State.afterRead_params (s : State) (a : Word) : (s.afterRead a).params = s.params := by unfold State.afterRead; split <;> rfl
@[simp] theorem State.afterRead_stepCycles (s : State) (a : Word) : (s.afterRead a).stepCycles = s.stepCycles := by unfold State.afterRead; split <;> rfl
@[simp] theorem State.afterRead_opAddr (s : State) (a : Word) : (s.afterRead a).opAddr = s.opAddr := by unfold State.afterRead; split <;> rfl

/-! ## The I/O registers and the bus -/

@[simp] theorem State.ioPoke_regs (s : State) (a : Word) (v : Byte) : (s.ioPoke a v).regs = s.regs := by
  unfold State.ioPoke; generalize ioReg a = r; cases r <;> first | rfl | (dsimp only; split <;> rfl)
@[simp] theorem State.ioPoke_pc (s : State) (a : Word) (v : Byte) : (s.ioPoke a v).pc = s.pc := by
  unfold State.ioPoke; generalize ioReg a = r; cases r <;> first | rfl | (dsimp only; split <;> rfl)
@[simp] theorem State.ioPoke_ime (s : State) (a : Word) (v : Byte) : (s.ioPoke a v).ime = s.ime := by
  unfold State.ioPoke; generalize ioReg a = r; cases r <;> first | rfl | (dsimp only; split <;> rfl)
@[simp] theorem State.ioPoke_eiPending (s : State) (a : Word) (v : Byte) : (s.ioPoke a v).eiPending = s.eiPending := by
  unfold State.ioPoke; generalize ioReg a = r; cases r <;> first | rfl | (dsimp only; split <;> rfl)
@[simp] theorem State.ioPoke_runState (s : State) (a : Word) (v : Byte) : (s.ioPoke a v).runState = s.runState := by
  unfold State.ioPoke; generalize ioReg a = r; cases r <;> first | rfl | (dsimp only; split <;> rfl)
@[simp] theorem State.ioPoke_haltBug (s : State) (a : Word) (v : Byte) : (s.ioPoke a v).haltBug = s.haltBug := by
  unfold State.ioPoke; generalize ioReg a = r; cases r <;> first | rfl | (dsimp only; split <;> rfl)
@[simp] theorem State.ioPoke_ie (s : State) (a : Word) (v : Byte) : (s.ioPoke a v).ie = s.ie := by
  unfold State.ioPoke; generalize ioReg a = r; cases r <;> first | rfl | (dsimp only; split <;> rfl)
@[simp] theorem State.ioPoke_ppu (s : State) (a : Word) (v : Byte) : (s.ioPoke a v).ppu = s.ppu := by
  unfold State.ioPoke; generalize ioReg a = r; cases r <;> first | rfl | (dsimp only; split <;> rfl)
@[simp] theorem State.ioPoke_ram (s : State) (a : Word) (v : Byte) : (s.ioPoke a v).ram = s.ram := by
  unfold State.ioPoke; generalize ioReg a = r; cases r <;> first | rfl | (dsimp only; split <;> rfl)
@[simp] theorem State.ioPoke_bootRom (s : State) (a : Word) (v : Byte) : (s.ioPoke a v).bootRom = s.bootRom := by
  unfold State.ioPoke; generalize ioReg a = r; cases r <;> first | rfl | (dsimp only; split <;> rfl)
@[simp] theorem State.ioPoke_cartRom (s : State) (a : Word) (v : Byte) : (s.ioPoke a v).cartRom = s.cartRom := by
  unfold State.ioPoke; generalize ioReg a = r; cases r <;> first | rfl | (dsimp only; split <;> rfl)
@[simp] theorem State.ioPoke_breakpoint (s : State) (a : Word) (v : Byte) : (s.ioPoke a v).breakpoint = s.breakpoint := by
  unfold State.ioPoke; generalize ioReg a = r; cases r <;> first | rfl | (dsimp only; split <;> rfl)
@[simp] theorem State.ioPoke_breakHit (s : State) (a : Word) (v : Byte) : (s.ioPoke a v).breakHit = s.breakHit := by
  unfold State.ioPoke; generalize ioReg a = r; cases r <;> first | rfl | (dsimp only; split <;> rfl)
@[simp] theorem State.ioPoke_faults (s : State) (a : Word) (v : Byte) : (s.ioPoke a v).faults = s.faults := by
  unfold State.ioPoke; generalize ioReg a = r; cases r <;> first | rfl | (dsimp only; split <;> rfl)
@[simp] theorem State.ioPoke_params (s : State) (a : Word) (v : Byte) : (s.ioPoke a v).params = s.params := by
  unfold State.ioPoke; generalize ioReg a = r; cases r <;> first | rfl | (dsimp only; split <;> rfl)
@[simp] theorem State.ioPoke_draws (s : State) (a : Word) (v : Byte) : (s.ioPoke a v).draws = s.draws := by
  unfold State.ioPoke; generalize ioReg a = r; cases r <;> first | rfl | (dsimp only; split <;> rfl)
@[simp] theorem State.ioPoke_stepCycles (s : State) (a : Word) (v : Byte) : (s.ioPoke a v).stepCycles = s.stepCycles := by
  unfold State.ioPoke; generalize ioReg a = r; cases r <;> first | rfl | (dsimp only; split <;> rfl)
@[simp] theorem State.ioPoke_opAddr (s : State) (a : Word) (v : Byte) : (s.ioPoke a v).opAddr = s.opAddr := by
  unfold State.ioPoke; generalize ioReg a = r; cases r <;> first | rfl | (dsimp only; split <;> rfl)

@[simp] theorem State.poke_regs (s : State) (a : Word) (v : Byte) : (s.poke a v).regs = s.regs := by
  unfold State.poke; generalize region a = r; cases r <;> first | rfl | exact s.ioPoke_regs a v | (dsimp only; split <;> rfl)
@[simp] theorem State.poke_pc (s : State) (a : Word) (v : Byte) : (s.poke a v).pc = s.pc := by
  unfold State.poke; generalize region a = r; cases r <;> first | rfl | exact s.ioPoke_pc a v | (dsimp only; split <;> rfl)
@[simp] theorem State.poke_ime (s : State) (a : Word) (v : Byte) : (s.poke a v).ime = s.ime := by
  unfold State.poke; generalize region a = r; cases r <;> first | rfl | exact s.ioPoke_ime a v | (dsimp only; split <;> rfl)
@[simp] theorem State.poke_eiPending (s : State) (a : Word) (v : Byte) : (s.poke a v).eiPending = s.eiPending := by
  unfold State.poke; generalize region a = r; cases r <;> first | rfl | exact s.ioPoke_eiPending a v | (dsimp only; split <;> rfl)
@[simp] theorem State.poke_runState (s : State) (a : Word) (v : Byte) : (s.poke a v).runState = s.runState := by
  unfold State.poke; generalize region a = r; cases r <;> first | rfl | exact s.ioPoke_runState a v | (dsimp only; split <;> rfl)
@[simp] theorem State.poke_haltBug (s : State) (a : Word) (v : Byte) : (s.poke a v).haltBug = s.haltBug := by
  unfold State.poke; generalize region a = r; cases r <;> first | rfl | exact s.ioPoke_haltBug a v | (dsimp only; split <;> rfl)
@[simp] theorem State.poke_ppu (s : State) (a : Word) (v : Byte) : (s.poke a v).ppu = s.ppu := by
  unfold State.poke; generalize region a = r; cases r <;> first | rfl | exact s.ioPoke_ppu a v | (dsimp only; split <;> rfl)
@[simp] theorem State.poke_bootRom (s : State) (a : Word) (v : Byte) : (s.poke a v).bootRom = s.bootRom := by
  unfold State.poke; generalize region a = r; cases r <;> first | rfl | exact s.ioPoke_bootRom a v | (dsimp only; split <;> rfl)
@[simp] theorem State.poke_cartRom (s : State) (a : Word) (v : Byte) : (s.poke a v).cartRom = s.cartRom := by
  unfold State.poke; generalize region a = r; cases r <;> first | rfl | exact s.ioPoke_cartRom a v | (dsimp only; split <;> rfl)
@[simp] theorem State.poke_breakpoint (s : State) (a : Word) (v : Byte) : (s.poke a v).breakpoint = s.breakpoint := by
  unfold State.poke; generalize region a = r; cases r <;> first | rfl | exact s.ioPoke_breakpoint a v | (dsimp only; split <;> rfl)
@[simp] theorem State.poke_breakHit (s : State) (a : Word) (v : Byte) : (s.poke a v).breakHit = s.breakHit := by
  unfold State.poke; generalize region a = r; cases r <;> first | rfl | exact s.ioPoke_breakHit a v | (dsimp only; split <;> rfl)
@[simp] theorem State.poke_faults (s : State) (a : Word) (v : Byte) : (s.poke a v).faults = s.faults := by
  unfold State.poke; generalize region a = r; cases r <;> first | rfl | exact s.ioPoke_faults a v | (dsimp only; split <;> rfl)
@[simp] theorem State.poke_params (s : State) (a : Word) (v : Byte) : (s.poke a v).params = s.params := by
  unfold State.poke; generalize region a = r; cases r <;> first | rfl | exact s.ioPoke_params a v | (dsimp only; split <;> rfl)
@[simp] theorem State.poke_draws (s : State) (a : Word) (v : Byte) : (s.poke a v).draws = s.draws := by
  unfold State.poke; generalize region a = r; cases r <;> first | rfl | exact s.ioPoke_draws a v | (dsimp only; split <;> rfl)
@[simp] theorem State.poke_stepCycles (s : State) (a : Word) (v : Byte) : (s.poke a v).stepCycles = s.stepCycles := by
  unfold State.poke; generalize region a = r; cases r <;> first | rfl | exact s.ioPoke_stepCycles a v | (dsimp only; split <;> rfl)
@[simp] theorem State.poke_opAddr (s : State) (a : Word) (v : Byte) : (s.poke a v).opAddr = s.opAddr := by
  unfold State.poke; generalize region a = r; cases r <;> first | rfl | exact s.ioPoke_opAddr a v | (dsimp only; split <;> rfl)

/-! ## Registers -/

@[simp] theorem Regs.get8_set8_same (r : Regs) (x : R8) (v : Byte) : (r.set8 x v).get8 x = v := by cases x <;> rfl
theorem Regs.get8_set8_other (r : Regs) {x y : R8} (v : Byte) (h : y ≠ x) : (r.set8 x v).get8 y = r.get8 y := by
  cases x <;> cases y <;> first | rfl | exact absurd rfl h
@[simp] theorem Regs.set8_f (r : Regs) (x : R8) (v : Byte) : (r.set8 x v).f = r.f := by cases x <;> rfl
@[simp] theorem Regs.set8_sp (r : Regs) (x : R8) (v : Byte) : (r.set8 x v).sp = r.sp := by cases x <;> rfl
@[simp] theorem Regs.set16_f (r : Regs) (x : R16) (v : Word) : (r.set16 x v).f = r.f := by cases x <;> rfl
@[simp] theorem Regs.setHL_sp (r : Regs) (v : Word) : (r.setHL v).sp = r.sp := rfl
@[simp] theorem Regs.setHL_f (r : Regs) (v : Word) : (r.setHL v).f = r.f := rfl

theorem hiByte_joinBytes (hi lo : Byte) : hiByte (joinBytes hi lo) = hi := by
  unfold hiByte joinBytes; exact BitVec.extractLsb'_append_eq_left
theorem loByte_joinBytes (hi lo : Byte) : loByte (joinBytes hi lo) = lo := by
  unfold loByte joinBytes; exact BitVec.extractLsb'_append_eq_right
theorem joinBytes_hiByte_loByte (v : Word) : joinBytes (hiByte v) (loByte v) = v := by
  unfold hiByte loByte joinBytes; exact (BitVec.extractLsb'_append_extractLsb'_eq_extractLsb' rfl).trans BitVec.extractLsb'_eq_self

@[simp] theorem Regs.get16_set16 (r : Regs) (x : R16) (v : Word) : (r.set16 x v).get16 x = v := by
  cases x <;> first | exact joinBytes_hiByte_loByte v | rfl
@[simp] theorem Regs.hl_setHL (r : Regs) (v : Word) : (r.setHL v).hl = v := joinBytes_hiByte_loByte v
theorem Regs.setHL_hl (r : Regs) : r.setHL r.hl = r := by
  simp [Regs.setHL, Regs.hl, hiByte_joinBytes, loByte_joinBytes]

end Sys2Proof.Machine
end

