-- ==== Sys2Proof/Laws/Access.lean ====
section
/-! SUPPORT. The bus, said once: what a read and a write answer, what a store changes of a later read, and that a store
keeps the memory invariant. Also the operand, stack and fetch accesses built on them. -/

namespace Sys2Proof.Machine

/-! ## R435's write -/

@[simp] theorem Timer.writeTima_divCounter (t : Timer) (v : Byte) : (t.writeTima v).divCounter = t.divCounter := by
  unfold Timer.writeTima; split <;> rfl

@[simp] theorem Timer.writeTima_tima (t : Timer) (v : Byte) : (t.writeTima v).tima = v := by
  unfold Timer.writeTima; split <;> rfl

@[simp] theorem Timer.writeTima_tma (t : Timer) (v : Byte) : (t.writeTima v).tma = t.tma := by
  unfold Timer.writeTima; split <;> rfl

@[simp] theorem Timer.writeTima_tac (t : Timer) (v : Byte) : (t.writeTima v).tac = t.tac := by
  unfold Timer.writeTima; split <;> rfl

/-! ## Sequencing -/

@[simp] theorem andThen_next {α β : Type} (x : α) (f : α → Res β) : andThen (.next x) f = f x := rfl

@[simp] theorem andThen_fault {α β : Type} (r : Fault) (f : α → Res β) : andThen (.fault r : Res α) f = .fault r := rfl

/-- A sequence that answers a value went on after its first part. -/
theorem andThen_eq_next {α β : Type} {o : Res α} {f : α → Res β} {y : β} (h : andThen o f = .next y) :
    ∃ x, o = .next x ∧ f x = .next y := by
  cases o with
  | next x => exact ⟨x, rfl, h⟩
  | fault r => exact nomatch h
  | refused r => exact nomatch h

theorem raise_ne_next {α : Type} {r : FaultRecord} {s : State} {x : α} : raise r s ≠ (.next x : Res α) := nofun

/-! ## Regions -/

/-- R62, R63: the region of an address lies around it. -/
theorem region_bounds (a : Word) : (region a).first ≤ a.toNat ∧ a.toNat ≤ (region a).last := by
  have hlt := a.isLt
  unfold region regionTable
  simp only [scanRegions]
  by_cases h1 : a.toNat ≤ 0x3FFF
  · simp only [h1, if_true]; exact ⟨Nat.zero_le _, h1⟩
  by_cases h2 : a.toNat ≤ 0x7FFF
  · simp only [h1, h2, if_true, if_false]; exact ⟨by simp only [Region.first]; omega, h2⟩
  by_cases h3 : a.toNat ≤ 0x9FFF
  · simp only [h1, h2, h3, if_true, if_false]; exact ⟨by simp only [Region.first]; omega, h3⟩
  by_cases h4 : a.toNat ≤ 0xBFFF
  · simp only [h1, h2, h3, h4, if_true, if_false]; exact ⟨by simp only [Region.first]; omega, h4⟩
  by_cases h5 : a.toNat ≤ 0xCFFF
  · simp only [h1, h2, h3, h4, h5, if_true, if_false]; exact ⟨by simp only [Region.first]; omega, h5⟩
  by_cases h6 : a.toNat ≤ 0xDFFF
  · simp only [h1, h2, h3, h4, h5, h6, if_true, if_false]; exact ⟨by simp only [Region.first]; omega, h6⟩
  by_cases h7 : a.toNat ≤ 0xFDFF
  · simp only [h1, h2, h3, h4, h5, h6, h7, if_true, if_false]; exact ⟨by simp only [Region.first]; omega, h7⟩
  by_cases h8 : a.toNat ≤ 0xFEFF
  · simp only [h1, h2, h3, h4, h5, h6, h7, h8, if_true, if_false]; exact ⟨by simp only [Region.first]; omega, h8⟩
  by_cases h9 : a.toNat ≤ 0xFF7F
  · simp only [h1, h2, h3, h4, h5, h6, h7, h8, h9, if_true, if_false]; exact ⟨by simp only [Region.first]; omega, h9⟩
  by_cases h10 : a.toNat ≤ 0xFFFE
  · simp only [h1, h2, h3, h4, h5, h6, h7, h8, h9, h10, if_true, if_false]
    exact ⟨by simp only [Region.first]; omega, h10⟩
  · simp only [h1, h2, h3, h4, h5, h6, h7, h8, h9, h10, if_false, ite_self]
    exact ⟨by simp only [Region.first]; omega, by simp only [Region.last]; omega⟩

/-- An address inside a region's bounds is in it: the regions do not overlap. -/
theorem region_eq_of_bounds {a : Word} {r : Region} (h1 : r.first ≤ a.toNat) (h2 : a.toNat ≤ r.last) : region a = r := by
  have h := region_bounds a
  generalize region a = q at h
  cases q <;> cases r <;> first | rfl | (simp only [Region.first, Region.last] at h h1 h2; omega)

theorem region_io_bounds {a : Word} (h : region a = .io) : 0xFF00 ≤ a.toNat ∧ a.toNat ≤ 0xFF7F := by
  have := region_bounds a
  rwa [h] at this

theorem region_echo_bounds {a : Word} (h : region a = .echo) : 0xE000 ≤ a.toNat ∧ a.toNat ≤ 0xFDFF := by
  have := region_bounds a
  rwa [h] at this

theorem region_ie_address {a : Word} (h : region a = .ie) : a = 0xFFFF := by
  have := region_bounds a
  rw [h] at this
  simp only [Region.first, Region.last] at this
  apply BitVec.eq_of_toNat_eq
  simp
  omega

theorem loByte_toNat (a : Word) : (loByte a).toNat = a.toNat % 256 := by
  simp [loByte]

/-- Two I/O addresses with the same offset are the same address. -/
theorem io_address_ext {a b : Word} (ha : region a = .io) (hb : region b = .io) (h : loByte a = loByte b) : a = b := by
  have := region_io_bounds ha
  have := region_io_bounds hb
  have h := congrArg BitVec.toNat h
  rw [loByte_toNat, loByte_toNat] at h
  apply BitVec.eq_of_toNat_eq
  omega

/-- An I/O register that is one address has one offset. -/
theorem ioRegAt_offset : ∀ off : Byte,
    (ioRegAt off.toNat = .div → off = 0x04) ∧ (ioRegAt off.toNat = .tima → off = 0x05) ∧
    (ioRegAt off.toNat = .tma → off = 0x06) ∧ (ioRegAt off.toNat = .tac → off = 0x07) ∧
    (ioRegAt off.toNat = .ifReg → off = 0x0F) ∧ (ioRegAt off.toNat = .lcdc → off = 0x40) ∧
    (ioRegAt off.toNat = .ly → off = 0x44) ∧ (ioRegAt off.toNat = .boot → off = 0x50) := by decide

/-! ## One access -/

theorem memRead_eq {s : State} {a : Word} (h : s.canRead a = true) : memRead a s = .next (s.peek a, s.afterRead a) := by
  simp only [State.canRead, Bool.not_eq_true'] at h
  simp [memRead, h]

theorem memRead_eq_next {s t : State} {a : Word} {v : Byte} (h : memRead a s = .next (v, t)) :
    s.canRead a = true ∧ v = s.peek a ∧ t = s.afterRead a := by
  unfold memRead at h
  split at h
  · exact absurd h raise_ne_next
  · next hr =>
    cases h
    exact ⟨by simpa [State.canRead] using hr, rfl, rfl⟩

theorem memRead_eq_fault {s : State} {a : Word} (h : s.canRead a = false) :
    memRead a s = raise (.restrictedAccess a) s := by
  simp only [State.canRead, Bool.not_eq_false'] at h
  simp [memRead, h]

theorem memWrite_eq {s : State} {a : Word} (v : Byte) (h : s.canWrite a = true) : memWrite a v s = .next (s.poke a v) := by
  simp only [State.canWrite, Bool.and_eq_true, Bool.not_eq_true'] at h
  simp [memWrite, h.1, h.2]

theorem memWrite_eq_next {s t : State} {a : Word} {v : Byte} (h : memWrite a v s = .next t) :
    s.canWrite a = true ∧ t = s.poke a v := by
  unfold memWrite at h
  split at h
  · exact absurd h raise_ne_next
  · split at h
    · exact absurd h raise_ne_next
    · next h1 h2 =>
      cases h
      exact ⟨by simp [State.canWrite, h1, h2], rfl⟩

/-- Which accesses fault depends on the parameters alone. -/
theorem State.canRead_congr {s t : State} (h : t.params = s.params) (a : Word) : t.canRead a = s.canRead a := by
  simp [State.canRead, State.restricted, h]

theorem State.canWrite_congr {s t : State} (h : t.params = s.params) (a : Word) : t.canWrite a = s.canWrite a := by
  simp [State.canWrite, State.restricted, h]

theorem State.home_congr {s t : State} (h : t.params = s.params) (a : Word) : t.home a = s.home a := by
  simp [State.home, h]

/-! Reads, stores and register updates change no access's permission. -/

@[simp] theorem State.canRead_afterRead (s : State) (x : Word) (a : Word) : (s.afterRead x).canRead a = s.canRead a := State.canRead_congr (by simp) a
@[simp] theorem State.canWrite_afterRead (s : State) (x : Word) (a : Word) : (s.afterRead x).canWrite a = s.canWrite a := State.canWrite_congr (by simp) a
@[simp] theorem State.canRead_poke (s : State) (x : Word) (v : Byte) (a : Word) : (s.poke x v).canRead a = s.canRead a := State.canRead_congr (by simp) a
@[simp] theorem State.canWrite_poke (s : State) (x : Word) (v : Byte) (a : Word) : (s.poke x v).canWrite a = s.canWrite a := State.canWrite_congr (by simp) a
@[simp] theorem State.canRead_setSP (s : State) (v : Word) (a : Word) : (s.setSP v).canRead a = s.canRead a := State.canRead_congr (by simp) a
@[simp] theorem State.canWrite_setSP (s : State) (v : Word) (a : Word) : (s.setSP v).canWrite a = s.canWrite a := State.canWrite_congr (by simp) a
@[simp] theorem State.canRead_setPC (s : State) (v : Word) (a : Word) : (s.setPC v).canRead a = s.canRead a := State.canRead_congr (by simp) a
@[simp] theorem State.canWrite_setPC (s : State) (v : Word) (a : Word) : (s.setPC v).canWrite a = s.canWrite a := State.canWrite_congr (by simp) a
@[simp] theorem State.canRead_set8 (s : State) (x : R8) (v : Byte) (a : Word) : (s.set8 x v).canRead a = s.canRead a := State.canRead_congr (by simp) a
@[simp] theorem State.canWrite_set8 (s : State) (x : R8) (v : Byte) (a : Word) : (s.set8 x v).canWrite a = s.canWrite a := State.canWrite_congr (by simp) a
@[simp] theorem State.canRead_setHL (s : State) (v : Word) (a : Word) : (s.setHL v).canRead a = s.canRead a := State.canRead_congr (by simp) a
@[simp] theorem State.canWrite_setHL (s : State) (v : Word) (a : Word) : (s.setHL v).canWrite a = s.canWrite a := State.canWrite_congr (by simp) a
@[simp] theorem State.canRead_setA (s : State) (v : Byte) (a : Word) : (s.setA v).canRead a = s.canRead a := State.canRead_congr (by simp) a
@[simp] theorem State.canWrite_setA (s : State) (v : Byte) (a : Word) : (s.setA v).canWrite a = s.canWrite a := State.canWrite_congr (by simp) a
@[simp] theorem State.canRead_setF (s : State) (f : Flags) (a : Word) : (s.setF f).canRead a = s.canRead a := State.canRead_congr (by simp) a
@[simp] theorem State.canWrite_setF (s : State) (f : Flags) (a : Word) : (s.setF f).canWrite a = s.canWrite a := State.canWrite_congr (by simp) a
@[simp] theorem State.canRead_took (s : State) (n : Nat) (a : Word) : (s.took n).canRead a = s.canRead a := State.canRead_congr (by simp) a
@[simp] theorem State.canWrite_took (s : State) (n : Nat) (a : Word) : (s.took n).canWrite a = s.canWrite a := State.canWrite_congr (by simp) a

/-! ## What a read depends on -/

/-- A read at a location that is no `draw()` depends on the stores, the latch, the registers on the bus alone. -/
theorem State.peek_congr {s t : State} {a : Word} (hd : drawnAt a = false) (hm : t.bootRomMapped = s.bootRomMapped)
    (hb : t.bootRom = s.bootRom) (hc : t.cartRom = s.cartRom) (hr : t.ram = s.ram) (hp : t.params = s.params)
    (hio : t.io = s.io) (htm : t.timer = s.timer) (hl : t.lcdc = s.lcdc)
    (hu : t.ppu = s.ppu) (hie : t.ie = s.ie) : t.peek a = s.peek a := by
  unfold State.peek
  unfold drawnAt at hd
  generalize region a = r at hd ⊢
  cases r <;> simp_all
  unfold State.ioPeek
  generalize ioReg a = q at hd ⊢
  cases q <;> simp_all [IoReg.drawn]

/-- A read moves only the `draw()` counter, so a later read of a location under a law is the same. -/
theorem State.peek_afterRead (s : State) (a : Word) {b : Word} (hd : drawnAt b = false) :
    (s.afterRead a).peek b = s.peek b := by
  apply State.peek_congr hd <;> simp

/-! ## What a store changes -/

/-- R66, R67: a store goes to the byte storage of its home, to an I/O register, to IE, or nowhere. -/
theorem State.poke_cases (s : State) (a : Word) (v : Byte) :
    (region a = .io ∧ s.poke a v = s.ioPoke a v) ∨ (region a = .ie ∧ s.poke a v = { s with ie := v }) ∨
    s.poke a v = s ∨
    (ramCell s.params.echoPolicy (s.home a).toNat = true ∧
      s.poke a v = { s with ram := s.ram.write (s.home a).toNat v }) := by
  have hb := region_bounds a
  have hcell : ∀ (b : Word) (r : Region), region b = r → (match r with
      | .vram => true | .cartRam => true | .wramFixed => true | .wramSwitchable => true | .hram => true
      | .echo => decide (s.params.echoPolicy ≠ .mirror) | .oam => decide (b.toNat ≤ 0xFE9F) | _ => false) = true →
      ramCell s.params.echoPolicy b.toNat = true := by
    intro b r hr h
    have hlt := b.isLt
    unfold ramCell
    rw [BitVec.ofNat_toNat, BitVec.setWidth_eq, hr]
    cases r <;> simp_all
  cases h : region a
  case io => exact .inl ⟨rfl, by simp only [State.poke, h]⟩
  case ie => exact .inr (.inl ⟨rfl, by simp only [State.poke, h]⟩)
  case cartFixed => exact .inr (.inr (.inl (by simp only [State.poke, h])))
  case cartSwitchable => exact .inr (.inr (.inl (by simp only [State.poke, h])))
  case echo =>
    refine .inr (.inr (.inr ⟨?_, by simp only [State.poke, State.home, h, if_true]⟩))
    simp only [State.home, h, if_true]
    have hbe := region_echo_bounds h
    cases hp : s.params.echoPolicy
    case mirror =>
      have hs : (a - 0x2000).toNat = a.toNat - 0x2000 := by
        rw [BitVec.toNat_sub]; simp; omega
      rw [← hp]
      rw [show echoTarget s.params.echoPolicy a = a - 0x2000 by rw [hp]; rfl]
      by_cases hlow : a.toNat ≤ 0xEFFF
      · exact hcell (a - 0x2000) .wramFixed (region_eq_of_bounds (by simp only [Region.first]; omega)
          (by simp only [Region.last]; omega)) rfl
      · exact hcell (a - 0x2000) .wramSwitchable (region_eq_of_bounds (by simp only [Region.first]; omega)
          (by simp only [Region.last]; omega)) rfl
    case flat => rw [← hp]; exact hcell _ _ (by simpa [echoTarget, hp] using h) (by simp [hp])
    case fault => rw [← hp]; exact hcell _ _ (by simpa [echoTarget, hp] using h) (by simp [hp])
  case oam =>
    by_cases ho : a.toNat ≤ 0xFE9F
    · refine .inr (.inr (.inr ⟨?_, by simp [State.poke, State.home, h, oamStored, ho]⟩))
      simp only [State.home, h, reduceCtorEq, if_false]
      exact hcell _ _ h (by simpa using ho)
    · exact .inr (.inr (.inl (by simp [State.poke, h, oamStored, ho])))
  all_goals
    refine .inr (.inr (.inr ⟨?_, by simp only [State.poke, State.home, h, reduceCtorEq, if_false]⟩))
    simp only [State.home, h, reduceCtorEq, if_false]
    exact hcell _ _ h rfl

/-- The byte a read of storage returns: the one kept at its home. -/
theorem State.peek_ram (s : State) {b : Word} {m : Mem} (h : m.read (s.home b).toNat = s.ram.read (s.home b).toNat) :
    State.peek { s with ram := m } b = s.peek b := by
  unfold State.peek
  unfold State.home at h
  cases hr : region b <;> simp only [hr, reduceCtorEq, if_true, if_false] at h ⊢ <;> first | exact h | rfl | skip
  rw [h]
  rfl

/-- Outside the I/O region a read depends on the stores, the latch, IE and the `draw()` counter. -/
theorem State.peek_congr_memory {s t : State} {b : Word} (hb : region b ≠ .io)
    (hm : b.toNat < 0x100 → t.bootRomMapped = s.bootRomMapped) (hbr : t.bootRom = s.bootRom) (hc : t.cartRom = s.cartRom)
    (hr : t.ram = s.ram) (hp : t.params = s.params) (hie : t.ie = s.ie) (hd : t.draws = s.draws) :
    t.peek b = s.peek b := by
  unfold State.peek State.nextDraw
  cases h : region b <;> simp only [hbr, hc, hr, hp, hie, hd]
  case cartFixed =>
    by_cases hlt : b.toNat < 0x100
    · rw [hm hlt]
    · simp [hlt]
  case io => exact absurd h hb

/-- A store through an I/O register changes no other I/O register's read. -/
theorem State.ioPeek_ioPoke_other (s : State) {a b : Word} (v : Byte) (h : loByte a ≠ loByte b) :
    (s.ioPoke a v).ioPeek b = s.ioPeek b := by
  have ha := ioRegAt_offset (loByte a)
  have hb := ioRegAt_offset (loByte b)
  have hn : a.toNat ≠ b.toNat := fun hh => h (congrArg loByte (BitVec.eq_of_toNat_eq hh))
  unfold State.ioPoke
  cases hq : ioReg a <;> simp only <;> unfold ioReg at hq
  case joypad | storage | stat =>
    unfold State.ioPeek
    cases hr : ioReg b <;> first | rfl | exact Mem.read_write_other _ v hn
  case boot => split <;> (unfold State.ioPeek; cases hr : ioReg b <;> rfl)
  case div =>
    have hne : ioReg b ≠ .div := fun hr => h ((ha.1 hq).trans (hb.1 hr).symm)
    unfold State.ioPeek
    cases hr : ioReg b <;> first | rfl | exact absurd hr hne
  case tima =>
    have hne : ioReg b ≠ .tima := fun hr => h ((ha.2.1 hq).trans (hb.2.1 hr).symm)
    unfold State.ioPeek
    cases hr : ioReg b <;>
      first | rfl | exact absurd hr hne | simp only [Timer.writeTima_divCounter, Timer.writeTima_tma, Timer.writeTima_tac]
    simp only [State.nextDraw]
  case tma =>
    have hne : ioReg b ≠ .tma := fun hr => h ((ha.2.2.1 hq).trans (hb.2.2.1 hr).symm)
    unfold State.ioPeek
    cases hr : ioReg b <;> first | rfl | exact absurd hr hne
  case tac =>
    have hne : ioReg b ≠ .tac := fun hr => h ((ha.2.2.2.1 hq).trans (hb.2.2.2.1 hr).symm)
    unfold State.ioPeek
    cases hr : ioReg b <;> first | rfl | exact absurd hr hne
  case ifReg =>
    have hne : ioReg b ≠ .ifReg := fun hr => h ((ha.2.2.2.2.1 hq).trans (hb.2.2.2.2.1 hr).symm)
    unfold State.ioPeek
    cases hr : ioReg b <;> first | rfl | exact absurd hr hne
  case lcdc =>
    have hne : ioReg b ≠ .lcdc := fun hr => h ((ha.2.2.2.2.2.1 hq).trans (hb.2.2.2.2.2.1 hr).symm)
    unfold State.ioPeek
    cases hr : ioReg b <;> first | rfl | exact absurd hr hne

/-- A store through an I/O register changes no other read but those under the boot-ROM overlay. -/
theorem State.peek_ioPoke_other (s : State) {a b : Word} (v : Byte) (ha : region a = .io) (hab : a ≠ b)
    (hboot : a = 0xFF50 → 0x100 ≤ b.toNat) : (s.ioPoke a v).peek b = s.peek b := by
  by_cases hb : region b = .io
  · simp only [State.peek, hb]
    exact s.ioPeek_ioPoke_other v fun h => hab (io_address_ext ha hb h)
  · have hmap : b.toNat < 0x100 → (s.ioPoke a v).bootRomMapped = s.bootRomMapped := by
      intro hlt
      have hq : ioReg a ≠ .boot := by
        intro hq
        have h50 := (ioRegAt_offset (loByte a)).2.2.2.2.2.2.2 hq
        have := hboot (io_address_ext ha (by decide) h50)
        omega
      unfold State.ioPoke
      cases h : ioReg a <;> first | rfl | exact absurd h hq
    exact State.peek_congr_memory hb hmap (by simp) (by simp) (by simp) (by simp) (by simp) (by simp)

/-- R66: a store changes only the reads it touches. -/
theorem State.peek_poke_other (s : State) {a b : Word} (v : Byte) (ht : s.touches a b = false) :
    (s.poke a v).peek b = s.peek b := by
  simp only [State.touches, Bool.or_eq_false_iff, decide_eq_false_iff_not, Bool.and_eq_false_iff] at ht
  obtain ⟨hh, hboot⟩ := ht
  have hab : a ≠ b := by rintro rfl; exact hh rfl
  rcases s.poke_cases a v with ⟨hr, he⟩ | ⟨hr, he⟩ | he | ⟨_, he⟩ <;> rw [he]
  · refine s.peek_ioPoke_other v hr hab fun h => ?_
    rcases hboot with hb | hb
    · exact absurd h hb
    · omega
  · have hb : region b ≠ .ie := fun hb => hab ((region_ie_address hr).trans (region_ie_address hb).symm)
    unfold State.peek
    cases hq : region b <;> first | rfl | exact absurd hq hb
  · exact s.peek_ram (Mem.read_write_other _ v fun h => hh (BitVec.eq_of_toNat_eq h))

/-- A store keeps the memory invariant. -/
theorem State.memoryWf_poke {s : State} (a : Word) (v : Byte) (h : s.memoryWf = true) :
    (s.poke a v).memoryWf = true := by
  rcases s.poke_cases a v with ⟨hr, he⟩ | ⟨_, he⟩ | he | ⟨hc, he⟩
  · rw [he]
    have hb := region_io_bounds hr
    have hcell : ∀ q, ioReg a = q → (q = .joypad ∨ q = .storage ∨ q = .stat) → ioCell a.toNat = true := by
      intro q hq hq'
      have hoff : a.toNat % 256 = (loByte a).toNat := (loByte_toNat a).symm
      unfold ioReg at hq
      unfold ioCell
      rw [hoff, hq]
      simp only [Bool.and_eq_true, decide_eq_true_eq]
      rcases hq' with rfl | rfl | rfl <;> exact ⟨hb, rfl⟩
    simp only [State.memoryWf, Bool.and_eq_true] at h ⊢
    unfold State.ioPoke
    cases hq : ioReg a <;> simp only
    case joypad => exact ⟨⟨⟨⟨⟨h.1.1.1.1.1, Mem.wf_write _ _ h.1.1.1.1.2⟩, Mem.within_write _ h.1.1.1.2 (hcell _ hq (by simp))⟩, h.1.1.2⟩, h.1.2⟩, h.2⟩
    case storage => exact ⟨⟨⟨⟨⟨h.1.1.1.1.1, Mem.wf_write _ _ h.1.1.1.1.2⟩, Mem.within_write _ h.1.1.1.2 (hcell _ hq (by simp))⟩, h.1.1.2⟩, h.1.2⟩, h.2⟩
    case stat => exact ⟨⟨⟨⟨⟨h.1.1.1.1.1, Mem.wf_write _ _ h.1.1.1.1.2⟩, Mem.within_write _ h.1.1.1.2 (hcell _ hq (by simp))⟩, h.1.1.2⟩, h.1.2⟩, h.2⟩
    case boot => split <;> exact h
    all_goals exact h
  · rw [he]; exact h
  · rw [he]; exact h
  · rw [he]
    simp only [State.memoryWf, Bool.and_eq_true] at h ⊢
    exact ⟨⟨⟨⟨⟨⟨Mem.wf_write _ _ h.1.1.1.1.1.1, Mem.within_write _ h.1.1.1.1.1.2 hc⟩, h.1.1.1.1.2⟩, h.1.1.1.2⟩, h.1.1.2⟩, h.1.2⟩, h.2⟩

/-! ## The DMA registers -/

/-- R48: the six DMA registers by number. -/
theorem dma_cases {a : Word} (h : a.toNat = 0xFF46 ∨ 0xFF51 ≤ a.toNat ∧ a.toNat ≤ 0xFF55) :
    a ∈ ([0xFF46, 0xFF51, 0xFF52, 0xFF53, 0xFF54, 0xFF55] : List Word) := by
  simp only [List.mem_cons, List.not_mem_nil, or_false, ← BitVec.toNat_inj]
  simp only [BitVec.toNat_ofNat, BitVec.ofNat_eq_ofNat]
  omega

/-- R48, R401: a write to a DMA register raises UnmodelledDevice with the address, and changes nothing else. -/
theorem memWrite_dma {a : Word} (h : a.toNat = 0xFF46 ∨ 0xFF51 ≤ a.toNat ∧ a.toNat ≤ 0xFF55) (v : Byte) (s : State) :
    memWrite a v s = raise (.unmodelledDevice a) s := by
  have := dma_cases h
  simp only [List.mem_cons, List.not_mem_nil, or_false] at this
  rcases this with rfl | rfl | rfl | rfl | rfl | rfl <;> rfl

/-- R48: a read of a DMA register succeeds and takes a `draw()` input. -/
theorem read_dma {a : Word} (h : a.toNat = 0xFF46 ∨ 0xFF51 ≤ a.toNat ∧ a.toNat ≤ 0xFF55) (s : State) :
    s.canRead a = true ∧ s.afterRead a = { s with draws := s.draws + 1 } := by
  have := dma_cases h
  simp only [List.mem_cons, List.not_mem_nil, or_false] at this
  rcases this with rfl | rfl | rfl | rfl | rfl | rfl <;>
    exact ⟨by simp only [State.canRead, State.restricted]; rfl, rfl⟩

end Sys2Proof.Machine
end

