-- ==== Sys2Proof/Laws/Devices.lean ====
section
/-! SUPPORT. The devices: which fields a device step leaves alone, and that one timer invocation and one dot keep the
devices' invariants. -/

namespace Sys2Proof.Machine

/-! ## What the devices leave alone -/

@[simp] theorem timerRun_regs (n : Nat) (s : State) : (timerRun n s).regs = s.regs := by
  induction n generalizing s with
  | zero => rfl
  | succ n ih => exact ih _
@[simp] theorem timerRun_pc (n : Nat) (s : State) : (timerRun n s).pc = s.pc := by
  induction n generalizing s with
  | zero => rfl
  | succ n ih => exact ih _
@[simp] theorem timerRun_ime (n : Nat) (s : State) : (timerRun n s).ime = s.ime := by
  induction n generalizing s with
  | zero => rfl
  | succ n ih => exact ih _
@[simp] theorem timerRun_eiPending (n : Nat) (s : State) : (timerRun n s).eiPending = s.eiPending := by
  induction n generalizing s with
  | zero => rfl
  | succ n ih => exact ih _
@[simp] theorem timerRun_runState (n : Nat) (s : State) : (timerRun n s).runState = s.runState := by
  induction n generalizing s with
  | zero => rfl
  | succ n ih => exact ih _
@[simp] theorem timerRun_haltBug (n : Nat) (s : State) : (timerRun n s).haltBug = s.haltBug := by
  induction n generalizing s with
  | zero => rfl
  | succ n ih => exact ih _
@[simp] theorem timerRun_ie (n : Nat) (s : State) : (timerRun n s).ie = s.ie := by
  induction n generalizing s with
  | zero => rfl
  | succ n ih => exact ih _
@[simp] theorem timerRun_lcdc (n : Nat) (s : State) : (timerRun n s).lcdc = s.lcdc := by
  induction n generalizing s with
  | zero => rfl
  | succ n ih => exact ih _
@[simp] theorem timerRun_bootRomMapped (n : Nat) (s : State) : (timerRun n s).bootRomMapped = s.bootRomMapped := by
  induction n generalizing s with
  | zero => rfl
  | succ n ih => exact ih _
@[simp] theorem timerRun_ppu (n : Nat) (s : State) : (timerRun n s).ppu = s.ppu := by
  induction n generalizing s with
  | zero => rfl
  | succ n ih => exact ih _
@[simp] theorem timerRun_io (n : Nat) (s : State) : (timerRun n s).io = s.io := by
  induction n generalizing s with
  | zero => rfl
  | succ n ih => exact ih _
@[simp] theorem timerRun_ram (n : Nat) (s : State) : (timerRun n s).ram = s.ram := by
  induction n generalizing s with
  | zero => rfl
  | succ n ih => exact ih _
@[simp] theorem timerRun_bootRom (n : Nat) (s : State) : (timerRun n s).bootRom = s.bootRom := by
  induction n generalizing s with
  | zero => rfl
  | succ n ih => exact ih _
@[simp] theorem timerRun_cartRom (n : Nat) (s : State) : (timerRun n s).cartRom = s.cartRom := by
  induction n generalizing s with
  | zero => rfl
  | succ n ih => exact ih _
@[simp] theorem timerRun_breakpoint (n : Nat) (s : State) : (timerRun n s).breakpoint = s.breakpoint := by
  induction n generalizing s with
  | zero => rfl
  | succ n ih => exact ih _
@[simp] theorem timerRun_breakHit (n : Nat) (s : State) : (timerRun n s).breakHit = s.breakHit := by
  induction n generalizing s with
  | zero => rfl
  | succ n ih => exact ih _
@[simp] theorem timerRun_faults (n : Nat) (s : State) : (timerRun n s).faults = s.faults := by
  induction n generalizing s with
  | zero => rfl
  | succ n ih => exact ih _
@[simp] theorem timerRun_params (n : Nat) (s : State) : (timerRun n s).params = s.params := by
  induction n generalizing s with
  | zero => rfl
  | succ n ih => exact ih _
@[simp] theorem timerRun_draws (n : Nat) (s : State) : (timerRun n s).draws = s.draws := by
  induction n generalizing s with
  | zero => rfl
  | succ n ih => exact ih _
@[simp] theorem timerRun_stepCycles (n : Nat) (s : State) : (timerRun n s).stepCycles = s.stepCycles := by
  induction n generalizing s with
  | zero => rfl
  | succ n ih => exact ih _
@[simp] theorem timerRun_opAddr (n : Nat) (s : State) : (timerRun n s).opAddr = s.opAddr := by
  induction n generalizing s with
  | zero => rfl
  | succ n ih => exact ih _

@[simp] theorem ppuRun_regs (n : Nat) (s : State) : (ppuRun n s).regs = s.regs := by
  induction n generalizing s with
  | zero => rfl
  | succ n ih => exact ih _
@[simp] theorem ppuRun_pc (n : Nat) (s : State) : (ppuRun n s).pc = s.pc := by
  induction n generalizing s with
  | zero => rfl
  | succ n ih => exact ih _
@[simp] theorem ppuRun_ime (n : Nat) (s : State) : (ppuRun n s).ime = s.ime := by
  induction n generalizing s with
  | zero => rfl
  | succ n ih => exact ih _
@[simp] theorem ppuRun_eiPending (n : Nat) (s : State) : (ppuRun n s).eiPending = s.eiPending := by
  induction n generalizing s with
  | zero => rfl
  | succ n ih => exact ih _
@[simp] theorem ppuRun_runState (n : Nat) (s : State) : (ppuRun n s).runState = s.runState := by
  induction n generalizing s with
  | zero => rfl
  | succ n ih => exact ih _
@[simp] theorem ppuRun_haltBug (n : Nat) (s : State) : (ppuRun n s).haltBug = s.haltBug := by
  induction n generalizing s with
  | zero => rfl
  | succ n ih => exact ih _
@[simp] theorem ppuRun_ie (n : Nat) (s : State) : (ppuRun n s).ie = s.ie := by
  induction n generalizing s with
  | zero => rfl
  | succ n ih => exact ih _
@[simp] theorem ppuRun_lcdc (n : Nat) (s : State) : (ppuRun n s).lcdc = s.lcdc := by
  induction n generalizing s with
  | zero => rfl
  | succ n ih => exact ih _
@[simp] theorem ppuRun_bootRomMapped (n : Nat) (s : State) : (ppuRun n s).bootRomMapped = s.bootRomMapped := by
  induction n generalizing s with
  | zero => rfl
  | succ n ih => exact ih _
@[simp] theorem ppuRun_timer (n : Nat) (s : State) : (ppuRun n s).timer = s.timer := by
  induction n generalizing s with
  | zero => rfl
  | succ n ih => exact ih _
@[simp] theorem ppuRun_io (n : Nat) (s : State) : (ppuRun n s).io = s.io := by
  induction n generalizing s with
  | zero => rfl
  | succ n ih => exact ih _
@[simp] theorem ppuRun_ram (n : Nat) (s : State) : (ppuRun n s).ram = s.ram := by
  induction n generalizing s with
  | zero => rfl
  | succ n ih => exact ih _
@[simp] theorem ppuRun_bootRom (n : Nat) (s : State) : (ppuRun n s).bootRom = s.bootRom := by
  induction n generalizing s with
  | zero => rfl
  | succ n ih => exact ih _
@[simp] theorem ppuRun_cartRom (n : Nat) (s : State) : (ppuRun n s).cartRom = s.cartRom := by
  induction n generalizing s with
  | zero => rfl
  | succ n ih => exact ih _
@[simp] theorem ppuRun_breakpoint (n : Nat) (s : State) : (ppuRun n s).breakpoint = s.breakpoint := by
  induction n generalizing s with
  | zero => rfl
  | succ n ih => exact ih _
@[simp] theorem ppuRun_breakHit (n : Nat) (s : State) : (ppuRun n s).breakHit = s.breakHit := by
  induction n generalizing s with
  | zero => rfl
  | succ n ih => exact ih _
@[simp] theorem ppuRun_faults (n : Nat) (s : State) : (ppuRun n s).faults = s.faults := by
  induction n generalizing s with
  | zero => rfl
  | succ n ih => exact ih _
@[simp] theorem ppuRun_params (n : Nat) (s : State) : (ppuRun n s).params = s.params := by
  induction n generalizing s with
  | zero => rfl
  | succ n ih => exact ih _
@[simp] theorem ppuRun_draws (n : Nat) (s : State) : (ppuRun n s).draws = s.draws := by
  induction n generalizing s with
  | zero => rfl
  | succ n ih => exact ih _
@[simp] theorem ppuRun_stepCycles (n : Nat) (s : State) : (ppuRun n s).stepCycles = s.stepCycles := by
  induction n generalizing s with
  | zero => rfl
  | succ n ih => exact ih _
@[simp] theorem ppuRun_opAddr (n : Nat) (s : State) : (ppuRun n s).opAddr = s.opAddr := by
  induction n generalizing s with
  | zero => rfl
  | succ n ih => exact ih _

@[simp] theorem ppuTick_regs (n : Nat) (s : State) : (ppuTick n s).regs = s.regs := by
  unfold ppuTick; split
  · exact ppuRun_regs n s
  · rfl
@[simp] theorem ppuTick_pc (n : Nat) (s : State) : (ppuTick n s).pc = s.pc := by
  unfold ppuTick; split
  · exact ppuRun_pc n s
  · rfl
@[simp] theorem ppuTick_ime (n : Nat) (s : State) : (ppuTick n s).ime = s.ime := by
  unfold ppuTick; split
  · exact ppuRun_ime n s
  · rfl
@[simp] theorem ppuTick_eiPending (n : Nat) (s : State) : (ppuTick n s).eiPending = s.eiPending := by
  unfold ppuTick; split
  · exact ppuRun_eiPending n s
  · rfl
@[simp] theorem ppuTick_runState (n : Nat) (s : State) : (ppuTick n s).runState = s.runState := by
  unfold ppuTick; split
  · exact ppuRun_runState n s
  · rfl
@[simp] theorem ppuTick_haltBug (n : Nat) (s : State) : (ppuTick n s).haltBug = s.haltBug := by
  unfold ppuTick; split
  · exact ppuRun_haltBug n s
  · rfl
@[simp] theorem ppuTick_ie (n : Nat) (s : State) : (ppuTick n s).ie = s.ie := by
  unfold ppuTick; split
  · exact ppuRun_ie n s
  · rfl
@[simp] theorem ppuTick_lcdc (n : Nat) (s : State) : (ppuTick n s).lcdc = s.lcdc := by
  unfold ppuTick; split
  · exact ppuRun_lcdc n s
  · rfl
@[simp] theorem ppuTick_bootRomMapped (n : Nat) (s : State) : (ppuTick n s).bootRomMapped = s.bootRomMapped := by
  unfold ppuTick; split
  · exact ppuRun_bootRomMapped n s
  · rfl
@[simp] theorem ppuTick_timer (n : Nat) (s : State) : (ppuTick n s).timer = s.timer := by
  unfold ppuTick; split
  · exact ppuRun_timer n s
  · rfl
@[simp] theorem ppuTick_io (n : Nat) (s : State) : (ppuTick n s).io = s.io := by
  unfold ppuTick; split
  · exact ppuRun_io n s
  · rfl
@[simp] theorem ppuTick_ram (n : Nat) (s : State) : (ppuTick n s).ram = s.ram := by
  unfold ppuTick; split
  · exact ppuRun_ram n s
  · rfl
@[simp] theorem ppuTick_bootRom (n : Nat) (s : State) : (ppuTick n s).bootRom = s.bootRom := by
  unfold ppuTick; split
  · exact ppuRun_bootRom n s
  · rfl
@[simp] theorem ppuTick_cartRom (n : Nat) (s : State) : (ppuTick n s).cartRom = s.cartRom := by
  unfold ppuTick; split
  · exact ppuRun_cartRom n s
  · rfl
@[simp] theorem ppuTick_breakpoint (n : Nat) (s : State) : (ppuTick n s).breakpoint = s.breakpoint := by
  unfold ppuTick; split
  · exact ppuRun_breakpoint n s
  · rfl
@[simp] theorem ppuTick_breakHit (n : Nat) (s : State) : (ppuTick n s).breakHit = s.breakHit := by
  unfold ppuTick; split
  · exact ppuRun_breakHit n s
  · rfl
@[simp] theorem ppuTick_faults (n : Nat) (s : State) : (ppuTick n s).faults = s.faults := by
  unfold ppuTick; split
  · exact ppuRun_faults n s
  · rfl
@[simp] theorem ppuTick_params (n : Nat) (s : State) : (ppuTick n s).params = s.params := by
  unfold ppuTick; split
  · exact ppuRun_params n s
  · rfl
@[simp] theorem ppuTick_draws (n : Nat) (s : State) : (ppuTick n s).draws = s.draws := by
  unfold ppuTick; split
  · exact ppuRun_draws n s
  · rfl
@[simp] theorem ppuTick_stepCycles (n : Nat) (s : State) : (ppuTick n s).stepCycles = s.stepCycles := by
  unfold ppuTick; split
  · exact ppuRun_stepCycles n s
  · rfl
@[simp] theorem ppuTick_opAddr (n : Nat) (s : State) : (ppuTick n s).opAddr = s.opAddr := by
  unfold ppuTick; split
  · exact ppuRun_opAddr n s
  · rfl

@[simp] theorem advanceDevices_regs (s : State) : (advanceDevices s).regs = s.regs := by simp [advanceDevices]
@[simp] theorem advanceDevices_pc (s : State) : (advanceDevices s).pc = s.pc := by simp [advanceDevices]
@[simp] theorem advanceDevices_ime (s : State) : (advanceDevices s).ime = s.ime := by simp [advanceDevices]
@[simp] theorem advanceDevices_eiPending (s : State) : (advanceDevices s).eiPending = s.eiPending := by simp [advanceDevices]
@[simp] theorem advanceDevices_runState (s : State) : (advanceDevices s).runState = s.runState := by simp [advanceDevices]
@[simp] theorem advanceDevices_haltBug (s : State) : (advanceDevices s).haltBug = s.haltBug := by simp [advanceDevices]
@[simp] theorem advanceDevices_ie (s : State) : (advanceDevices s).ie = s.ie := by simp [advanceDevices]
@[simp] theorem advanceDevices_lcdc (s : State) : (advanceDevices s).lcdc = s.lcdc := by simp [advanceDevices]
@[simp] theorem advanceDevices_bootRomMapped (s : State) : (advanceDevices s).bootRomMapped = s.bootRomMapped := by simp [advanceDevices]
@[simp] theorem advanceDevices_io (s : State) : (advanceDevices s).io = s.io := by simp [advanceDevices]
@[simp] theorem advanceDevices_ram (s : State) : (advanceDevices s).ram = s.ram := by simp [advanceDevices]
@[simp] theorem advanceDevices_bootRom (s : State) : (advanceDevices s).bootRom = s.bootRom := by simp [advanceDevices]
@[simp] theorem advanceDevices_cartRom (s : State) : (advanceDevices s).cartRom = s.cartRom := by simp [advanceDevices]
@[simp] theorem advanceDevices_breakpoint (s : State) : (advanceDevices s).breakpoint = s.breakpoint := by simp [advanceDevices]
@[simp] theorem advanceDevices_breakHit (s : State) : (advanceDevices s).breakHit = s.breakHit := by simp [advanceDevices]
@[simp] theorem advanceDevices_faults (s : State) : (advanceDevices s).faults = s.faults := by simp [advanceDevices]
@[simp] theorem advanceDevices_params (s : State) : (advanceDevices s).params = s.params := by simp [advanceDevices]
@[simp] theorem advanceDevices_draws (s : State) : (advanceDevices s).draws = s.draws := by simp [advanceDevices]
@[simp] theorem advanceDevices_stepCycles (s : State) : (advanceDevices s).stepCycles = s.stepCycles := by simp [advanceDevices]
@[simp] theorem advanceDevices_opAddr (s : State) : (advanceDevices s).opAddr = s.opAddr := by simp [advanceDevices]

/-- R456: the devices change only the timer, the scanline controller and the request bits. -/
theorem advanceDevices_eq (s : State) :
    advanceDevices s = { s with timer := (advanceDevices s).timer, ppu := (advanceDevices s).ppu,
                                iflag := (advanceDevices s).iflag } := by
  have h : ∀ t : State, t.regs = s.regs → t.pc = s.pc → t.ime = s.ime → t.eiPending = s.eiPending →
      t.runState = s.runState → t.haltBug = s.haltBug → t.ie = s.ie → t.lcdc = s.lcdc →
      t.bootRomMapped = s.bootRomMapped → t.io = s.io → t.ram = s.ram → t.bootRom = s.bootRom → t.cartRom = s.cartRom →
      t.breakpoint = s.breakpoint → t.breakHit = s.breakHit → t.faults = s.faults → t.params = s.params →
      t.draws = s.draws → t.stepCycles = s.stepCycles → t.opAddr = s.opAddr →
      t = { s with timer := t.timer, ppu := t.ppu, iflag := t.iflag } := by
    intro t
    obtain ⟨⟩ := t
    intros
    subst_vars
    rfl
  apply h <;> simp

/-! ## The timer's invariant -/

theorem Timer.wf_count {t : Timer} (h : t.wf = true) : t.count.wf = true := h

theorem Timer.wf_window {t : Timer} (h : t.wf = true) : t.window.wf = true := by
  have step : ∀ k : Fin 5, k.val < 4 → k + 1 ≠ 4 → (k + 1).val < 4 := by decide
  unfold Timer.window
  split
  · next hp =>
    split
    · rfl
    · next hk =>
      simp only [Timer.wf, hp, Bool.true_or, Bool.true_and, Bool.and_eq_true, decide_eq_true_eq] at h ⊢
      exact ⟨h.1, step _ h.2 hk⟩
  · exact h

theorem Timer.wf_edge {t : Timer} (h : t.wf = true) : t.edge.wf = true := by
  obtain ⟨dv, ti, tm, tc, lt, op, os, ra, ia⟩ := t
  unfold Timer.edge
  split
  · split
    · rfl
    · exact h
  · exact h

/-- R431: an invocation keeps the latches armed only inside a window of at most four invocations. -/
theorem Timer.wf_invoke {t : Timer} (h : t.wf = true) : t.invoke.wf = true := Timer.wf_edge (Timer.wf_window h)

theorem Timer.wf_writeTima {t : Timer} (v : Byte) (h : t.wf = true) : (t.writeTima v).wf = true := by
  unfold Timer.writeTima
  split
  · next hp =>
    simp only [Timer.wf, hp, Bool.true_or, Bool.true_and, Bool.and_eq_true] at h ⊢
    exact ⟨rfl, h.2⟩
  · exact h

theorem timerRun_timer_wf {n : Nat} {s : State} (h : s.timer.wf = true) : (timerRun n s).timer.wf = true := by
  induction n generalizing s with
  | zero => exact h
  | succ n ih => exact ih (Timer.wf_invoke h)

/-! ## The scanline controller's invariant -/

theorem Ppu.wf_iff {p : Params} {u : Ppu} :
    u.wf p = true ↔ u.dot.toNat < p.dotsPerLine ∧ u.line.toNat < p.linesPerFrame ∧
      u.mode = modeAt p u.line.toNat u.dot.toNat ∧ u.queue.length ≤ p.fetchQueueThreshold + 7 := by
  simp only [Ppu.wf, Bool.and_eq_true, decide_eq_true_eq, and_assoc]

/-- R443: the mode on a non-visible line, and at the start of a visible one. -/
theorem modeAt_vblank {p : Params} {line : Nat} (dot : Nat) (h : p.visibleLines ≤ line) : modeAt p line dot = .vblank :=
  if_pos h

theorem modeAt_line_start {p : Params} {line : Nat} (h : line < p.visibleLines) (ho : 0 < p.oamSearchDots) :
    modeAt p line (0 : Word).toNat = .oamSearch := by
  unfold modeAt
  rw [if_neg (by omega)]
  exact if_pos ho

theorem Ppu.length_fetchPhase {th : Nat} (l : Byte) (m : Mem) {u : Ppu} (h : u.queue.length ≤ th + 7) :
    (Ppu.fetchPhase th l m u).queue.length ≤ th + 8 := by
  unfold Ppu.fetchPhase
  split
  · exact Nat.le_succ_of_le h
  · exact Nat.le_succ_of_le h
  · exact Nat.le_succ_of_le h
  · split
    · next hl => simp [tilePixels]; omega
    · exact Nat.le_succ_of_le h

theorem Ppu.length_fetcherInvoke {th : Nat} (l : Byte) (m : Mem) {u : Ppu} (h : u.queue.length ≤ th + 7) :
    (u.fetcherInvoke th l m).queue.length ≤ th + 8 := by
  unfold Ppu.fetcherInvoke
  split
  · exact Ppu.length_fetchPhase l m (u := { u with fetchDiv := false }) h
  · exact Nat.le_succ_of_le h

theorem Ppu.length_popPixel (u : Ppu) : u.popPixel.queue.length = u.queue.length - 1 := by
  unfold Ppu.popPixel
  split <;> simp_all

@[simp] theorem Ppu.popPixel_counters (u : Ppu) :
    u.popPixel.dot = u.dot ∧ u.popPixel.line = u.line ∧ u.popPixel.mode = u.mode := by
  unfold Ppu.popPixel
  split <;> exact ⟨rfl, rfl, rfl⟩

@[simp] theorem Ppu.fetcherInvoke_counters (th : Nat) (l : Byte) (m : Mem) (u : Ppu) :
    (u.fetcherInvoke th l m).dot = u.dot ∧ (u.fetcherInvoke th l m).line = u.line ∧
    (u.fetcherInvoke th l m).mode = u.mode := by
  unfold Ppu.fetcherInvoke Ppu.fetchPhase
  split
  · split
    · exact ⟨rfl, rfl, rfl⟩
    · exact ⟨rfl, rfl, rfl⟩
    · exact ⟨rfl, rfl, rfl⟩
    · split <;> exact ⟨rfl, rfl, rfl⟩
  · exact ⟨rfl, rfl, rfl⟩

/-- R441, R448: a dot's fetch and pop move no counter and keep the queue's bound. -/
theorem Ppu.transferDot_spec (p : Params) (l : Byte) (m : Mem) (u : Ppu) :
    (u.transferDot p l m).dot = u.dot ∧ (u.transferDot p l m).line = u.line ∧ (u.transferDot p l m).mode = u.mode ∧
    (u.queue.length ≤ p.fetchQueueThreshold + 7 →
      (u.transferDot p l m).queue.length ≤ p.fetchQueueThreshold + 7) := by
  unfold Ppu.transferDot
  split
  · have h1 := Ppu.popPixel_counters (u.fetcherInvoke p.fetchQueueThreshold l m)
    have h2 := Ppu.fetcherInvoke_counters p.fetchQueueThreshold l m u
    refine ⟨h1.1.trans h2.1, h1.2.1.trans h2.2.1, h1.2.2.trans h2.2.2, fun hq => ?_⟩
    have := Ppu.length_fetcherInvoke (th := p.fetchQueueThreshold) l m hq
    rw [Ppu.length_popPixel]
    omega
  all_goals exact ⟨rfl, rfl, rfl, id⟩

/-- R442: the line counter stays below the frame's line count. -/
theorem nextLine_lt {p : Params} {line : Byte} (h : line.toNat < p.linesPerFrame) (hp : p.linesPerFrame < 0x100) :
    (nextLine p line).toNat < p.linesPerFrame := by
  unfold nextLine
  split
  · simp; omega
  · next hne =>
    have : (line + 1).toNat = line.toNat + 1 := by rw [BitVec.toNat_add]; simp; omega
    omega

/-- R441-R443: counting a dot keeps the counters in range and the mode that of the line and dot. -/
theorem Ppu.wf_countDot {p : Params} {u : Ppu} (hp : paramsSane p = true) (h : u.wf p = true) :
    (u.countDot p).wf p = true := by
  simp only [paramsSane, Bool.and_eq_true, decide_eq_true_eq] at hp
  obtain ⟨⟨⟨⟨⟨⟨ho, ht⟩, hd⟩, hdm⟩, hv⟩, hvl⟩, hl⟩ := hp
  obtain ⟨h1, h2, h3, h4⟩ := Ppu.wf_iff.mp h
  have hdot : (u.dot + 1).toNat = u.dot.toNat + 1 := by rw [BitVec.toNat_add]; simp; omega
  unfold Ppu.countDot Ppu.lineEnds
  rw [hdot]
  split
  · have hn := nextLine_lt h2 hl
    unfold Ppu.endLine
    split
    · next he =>
      exact Ppu.wf_iff.mpr ⟨by show 0 < p.dotsPerLine; omega, hn, (modeAt_vblank _ (Nat.le_of_eq he.symm)).symm, h4⟩
    · next he =>
      split
      · next hlt =>
        exact Ppu.wf_iff.mpr ⟨by show 0 < p.dotsPerLine; omega, hn, (modeAt_line_start hlt ho).symm, Nat.zero_le _⟩
      · next hlt =>
        refine Ppu.wf_iff.mpr ⟨by show 0 < p.dotsPerLine; omega, hn, ?_, h4⟩
        have hle : p.visibleLines ≤ (nextLine p u.line).toNat := by omega
        have hne : (u.line + 1).toNat ≠ p.linesPerFrame := by
          intro hc
          have : nextLine p u.line = 0 := by unfold nextLine; rw [if_pos hc]
          rw [this] at hle
          simp at hle
          omega
        have hline : (u.line + 1).toNat = u.line.toNat + 1 := by rw [BitVec.toNat_add]; simp; omega
        have hnext : nextLine p u.line = u.line + 1 := by unfold nextLine; rw [if_neg hne]
        rw [hnext, hline] at he hle
        show u.mode = modeAt p (nextLine p u.line).toNat _
        rw [h3, modeAt_vblank _ (by omega), modeAt_vblank _ (by rw [hnext, hline]; omega)]
  · next hne =>
    have hne : u.dot.toNat + 1 ≠ p.dotsPerLine := by simpa using hne
    split
    · next hvis =>
      refine Ppu.wf_iff.mpr ⟨by show (u.dot + 1).toNat < p.dotsPerLine; omega, h2, ?_, h4⟩
      show dotMode p (u.dot.toNat + 1) u.mode = modeAt p u.line.toNat (u.dot + 1).toNat
      rw [h3, hdot]
      unfold dotMode modeAt
      rw [if_neg (by omega : ¬ p.visibleLines ≤ u.line.toNat), if_neg (by omega : ¬ p.visibleLines ≤ u.line.toNat)]
      repeat' split
      all_goals first | rfl | omega
    · next hvis =>
      refine Ppu.wf_iff.mpr ⟨by show (u.dot + 1).toNat < p.dotsPerLine; omega, h2, ?_, h4⟩
      show u.mode = modeAt p u.line.toNat _
      rw [h3, modeAt_vblank _ (by omega), modeAt_vblank _ (by omega)]

/-- R441: one dot keeps the scanline controller's invariant. -/
theorem Ppu.wf_dotStep {p : Params} {u : Ppu} (l : Byte) (m : Mem) (hp : paramsSane p = true) (h : u.wf p = true) :
    (u.dotStep p l m).wf p = true := by
  obtain ⟨h1, h2, h3, h4⟩ := Ppu.transferDot_spec p l m u
  apply Ppu.wf_countDot hp
  obtain ⟨hd, hl, hm, hq⟩ := Ppu.wf_iff.mp h
  exact Ppu.wf_iff.mpr ⟨h1 ▸ hd, h2 ▸ hl, by rw [h1, h2, h3]; exact hm, h4 hq⟩

theorem ppuRun_ppu_wf {n : Nat} {s : State} (hp : paramsSane s.params = true) (h : s.ppu.wf s.params = true) :
    (ppuRun n s).ppu.wf s.params = true := by
  induction n generalizing s with
  | zero => exact h
  | succ n ih => exact ih (s := ppuDotStep s) hp (Ppu.wf_dotStep _ _ hp h)

theorem Ppu.wf_lcdOff {p : Params} (u : Ppu) (hp : paramsSane p = true) : u.lcdOff.wf p = true := by
  simp only [paramsSane, Bool.and_eq_true, decide_eq_true_eq] at hp
  obtain ⟨⟨⟨⟨⟨⟨ho, ht⟩, hd⟩, hdm⟩, hv⟩, hvl⟩, hl⟩ := hp
  exact Ppu.wf_iff.mpr ⟨by show 0 < p.dotsPerLine; omega, by show 0 < p.linesPerFrame; omega,
    (modeAt_line_start (line := 0) hv ho).symm, Nat.zero_le _⟩

theorem ppuTick_ppu_wf {n : Nat} {s : State} (hp : paramsSane s.params = true) (h : s.ppu.wf s.params = true) :
    (ppuTick n s).ppu.wf s.params = true := by
  unfold ppuTick
  split
  · exact ppuRun_ppu_wf hp h
  · exact Ppu.wf_lcdOff _ hp

/-- R100: the devices' advance keeps the devices' invariant. -/
theorem devicesWf_advanceDevices {s : State} (h : s.devicesWf = true) : (advanceDevices s).devicesWf = true := by
  simp only [State.devicesWf, Bool.and_eq_true] at h ⊢
  refine ⟨⟨by simpa using h.1.1, ?_⟩, ?_⟩
  · simp only [advanceDevices, ppuTick_timer]
    exact timerRun_timer_wf h.1.2
  · simp only [advanceDevices, ppuTick_params, timerRun_params]
    have := ppuTick_ppu_wf (n := s.stepCycles * Config.dotsPerCycle)
      (s := timerRun (s.stepCycles * s.params.timerInvocationsPerCycle) s) (by simpa using h.1.1) (by simpa using h.2)
    simpa using this

end Sys2Proof.Machine
end

