-- ==== Sys2Proof/Laws/Operations.lean ====
section
/-! SUPPORT. One specification lemma per shared operation of Ops, Operands and Fetch: what it answers when its accesses
do not fault, and (`_eq_next`) everything it can do when it answers a value. -/

namespace Sys2Proof.Machine

/-! ## Reads, stores and the register file do not interfere -/

theorem State.poke_regs_comm (s : State) (r : Regs) (a : Word) (v : Byte) :
    State.poke { s with regs := r } a v = { s.poke a v with regs := r } := by
  unfold State.poke
  cases region a <;> simp only
  case oam => split <;> rfl
  case io =>
    unfold State.ioPoke
    cases ioReg a <;> simp only
    split <;> rfl

theorem State.afterRead_regs_comm (s : State) (r : Regs) (a : Word) :
    State.afterRead { s with regs := r } a = { s.afterRead a with regs := r } := by
  unfold State.afterRead
  split <;> rfl

theorem State.peek_regs (s : State) (r : Regs) (a : Word) : State.peek { s with regs := r } a = s.peek a := by
  unfold State.peek
  cases region a <;> rfl

theorem State.afterRead_sp_comm (s : State) (v a : Word) : (s.setSP v).afterRead a = (s.afterRead a).setSP v := by
  simp only [State.setSP, State.afterRead_regs_comm, State.afterRead_regs]

theorem State.poke_sp_comm (s : State) (v a : Word) (x : Byte) : (s.setSP v).poke a x = (s.poke a x).setSP v := by
  simp only [State.setSP, State.poke_regs_comm, State.poke_regs]

theorem State.setSP_setSP (s : State) (v w : Word) : (s.setSP v).setSP w = s.setSP w := rfl

/-! ## Operands -/

theorem readOperand_eq {s : State} {o : Operand8} (h : s.canReadOperand o = true) :
    readOperand o s = .next (s.operand o, s.afterOperand o) := by
  cases o with
  | reg r => rfl
  | atHL => exact memRead_eq h

theorem readOperand_eq_next {s t : State} {o : Operand8} {v : Byte} (h : readOperand o s = .next (v, t)) :
    s.canReadOperand o = true ∧ v = s.operand o ∧ t = s.afterOperand o := by
  cases o with
  | reg r => cases h; exact ⟨rfl, rfl, rfl⟩
  | atHL => exact memRead_eq_next h

theorem writeOperand_eq {s : State} {o : Operand8} (v : Byte) (h : s.canWriteOperand o = true) :
    writeOperand o v s = .next (s.setOperand o v) := by
  cases o with
  | reg r => rfl
  | atHL => exact memWrite_eq v h

theorem writeOperand_eq_next {s t : State} {o : Operand8} {v : Byte} (h : writeOperand o v s = .next t) :
    s.canWriteOperand o = true ∧ t = s.setOperand o v := by
  cases o with
  | reg r => cases h; exact ⟨rfl, rfl⟩
  | atHL => exact memWrite_eq_next h

@[simp] theorem State.afterOperand_regs (s : State) (o : Operand8) : (s.afterOperand o).regs = s.regs := by
  cases o <;> simp [State.afterOperand]

@[simp] theorem State.afterOperand_params (s : State) (o : Operand8) : (s.afterOperand o).params = s.params := by
  cases o <;> simp [State.afterOperand]

/-- Whether an operand can be written does not depend on having read another. -/
theorem State.canWriteOperand_afterOperand (s : State) (o o' : Operand8) :
    (s.afterOperand o).canWriteOperand o' = s.canWriteOperand o' := by
  cases o' with
  | reg r => rfl
  | atHL => simp only [State.canWriteOperand, State.afterOperand_regs]; exact State.canWrite_congr (by simp) _

/-- An operand that can be written can be read: only a DMA register differs. -/
theorem State.canRead_of_canWrite {s : State} {a : Word} (h : s.canWrite a = true) : s.canRead a = true := by
  simp only [State.canWrite, Bool.and_eq_true] at h
  exact h.1

theorem State.canReadOperand_of_canWriteOperand {s : State} {o : Operand8} (h : s.canWriteOperand o = true) :
    s.canReadOperand o = true := by
  cases o with
  | reg r => rfl
  | atHL => exact State.canRead_of_canWrite h

/-- Where the write at HL would fault, an instruction that reads the byte there first faults with that same fault: a read
faults only where the write does, with the same record, and takes no `draw()`. -/
theorem andThen_readOperand_eq_fault {s : State} {v : Byte} {f : Fault} {g : Byte × State → Res State}
    (h : memWrite s.regs.hl v (s.afterRead s.regs.hl) = .fault f)
    (hg : s.canRead s.regs.hl = true → g (s.peek s.regs.hl, s.afterRead s.regs.hl) = .fault f) :
    andThen (readOperand .atHL s) g = .fault f := by
  by_cases hc : s.canRead s.regs.hl = true
  · rw [readOperand_eq (o := .atHL) hc]; exact hg hc
  · have hr : s.restricted s.regs.hl = true := by simpa [State.canRead] using hc
    have hd : drawnAt s.regs.hl = false := by
      unfold State.restricted at hr; unfold drawnAt
      revert hr; cases region s.regs.hl <;> simp
    have ha : s.afterRead s.regs.hl = s := by simp [State.afterRead, hd]
    rw [ha] at h
    simp only [memWrite, hr, if_true] at h
    show andThen (memRead _ _) _ = _
    rw [memRead, hr]; simpa [raise, andThen] using h

/-! ## 16-bit accesses and the stack -/

theorem memWrite16_eq {s : State} {a : Word} (v : Word) (h1 : s.canWrite a = true) (h2 : s.canWrite (a + 1) = true) :
    memWrite16 a v s = .next ((s.poke a (loByte v)).poke (a + 1) (hiByte v)) := by
  unfold memWrite16
  rw [memWrite_eq _ h1, andThen_next]
  exact memWrite_eq _ (by simpa using h2)

theorem memWrite16_eq_next {s t : State} {a v : Word} (h : memWrite16 a v s = .next t) :
    s.canWrite a = true ∧ s.canWrite (a + 1) = true ∧ t = (s.poke a (loByte v)).poke (a + 1) (hiByte v) := by
  obtain ⟨s1, h1, h2⟩ := andThen_eq_next h
  obtain ⟨hw1, rfl⟩ := memWrite_eq_next h1
  obtain ⟨hw2, rfl⟩ := memWrite_eq_next h2
  exact ⟨hw1, by simpa using hw2, rfl⟩

theorem memRead16_eq {s : State} {a : Word} (h1 : s.canRead a = true) (h2 : s.canRead (a + 1) = true) :
    memRead16 a s = .next (joinBytes ((s.afterRead a).peek (a + 1)) (s.peek a), (s.afterRead a).afterRead (a + 1)) := by
  unfold memRead16
  simp only [memRead_eq h1, andThen_next]
  rw [memRead_eq (by simpa using h2)]
  rfl

theorem push16_eq {s : State} (v : Word) (h : s.canPush = true) : push16 v s = .next (s.pushed v) := by
  simp only [State.canPush, Bool.and_eq_true] at h
  have hsp : s.regs.sp - 1 - 1 = s.regs.sp - 2 := by rw [BitVec.sub_sub]; rfl
  unfold push16
  rw [memWrite_eq _ (by simpa using h.1), andThen_next, State.poke_sp_comm]
  simp only [State.setSP_regs, State.setSP_setSP, hsp]
  rw [memWrite_eq _ (by simpa using h.2), State.poke_sp_comm]
  rfl

theorem push16_eq_next {s t : State} {v : Word} (h : push16 v s = .next t) : s.canPush = true ∧ t = s.pushed v := by
  have hsp : s.regs.sp - 1 - 1 = s.regs.sp - 2 := by rw [BitVec.sub_sub]; rfl
  have hp : s.canPush = true := by
    obtain ⟨s1, h1, h2⟩ := andThen_eq_next h
    obtain ⟨hw1, rfl⟩ := memWrite_eq_next h1
    obtain ⟨hw2, _⟩ := memWrite_eq_next h2
    simp only [State.canWrite_setSP, State.canWrite_poke, State.poke_regs, State.setSP_regs, hsp] at hw1 hw2
    simp only [State.canPush, Bool.and_eq_true]
    exact ⟨hw1, hw2⟩
  rw [push16_eq v hp] at h
  cases h
  exact ⟨hp, rfl⟩

/-- R260, R401: a push whose first byte cannot be written has moved SP by -1. -/
theorem push16_eq_fault_first {s : State} {v : Word} {f : Fault}
    (h : memWrite (s.regs.sp - 1) (hiByte v) (s.setSP (s.regs.sp - 1)) = .fault f) : push16 v s = .fault f := by
  unfold push16
  rw [h]
  rfl

/-- R260, R401: a push whose second byte cannot be written has stored the first and moved SP by -2. -/
theorem push16_eq_fault_second {s : State} {v : Word} {f : Fault} (hw : s.canWrite (s.regs.sp - 1) = true)
    (h : memWrite (s.regs.sp - 2) (loByte v) ((s.poke (s.regs.sp - 1) (hiByte v)).setSP (s.regs.sp - 2)) = .fault f) :
    push16 v s = .fault f := by
  have hsp : s.regs.sp - 1 - 1 = s.regs.sp - 2 := by rw [BitVec.sub_sub]; rfl
  unfold push16
  rw [memWrite_eq _ (by simpa using hw), andThen_next, State.poke_sp_comm]
  simp only [State.setSP_regs, State.setSP_setSP, hsp]
  exact h

theorem pop16_eq {s : State} (h : s.canPop = true) : pop16 s = .next (s.popWord, s.popped) := by
  simp only [State.canPop, Bool.and_eq_true] at h
  have hsp : s.regs.sp + 1 + 1 = s.regs.sp + 2 := by rw [BitVec.add_assoc]; rfl
  unfold pop16
  simp only [memRead_eq h.1, andThen_next, State.afterRead_regs]
  rw [memRead_eq (by simpa using h.2), State.afterRead_sp_comm]
  simp only [andThen_next, hsp, State.setSP, State.peek_regs]
  rfl

theorem pop16_eq_next {s t : State} {v : Word} (h : pop16 s = .next (v, t)) :
    s.canPop = true ∧ v = s.popWord ∧ t = s.popped := by
  have hp : s.canPop = true := by
    obtain ⟨⟨lo, s1⟩, h1, h2⟩ := andThen_eq_next h
    obtain ⟨hr1, -, rfl⟩ := memRead_eq_next h1
    obtain ⟨⟨hi, s2⟩, h3, -⟩ := andThen_eq_next h2
    obtain ⟨hr2, -, -⟩ := memRead_eq_next h3
    simp only [State.canRead_setSP, State.canRead_afterRead, State.afterRead_regs] at hr2
    simp only [State.canPop, Bool.and_eq_true]
    exact ⟨hr1, hr2⟩
  rw [pop16_eq hp] at h
  cases h
  exact ⟨hp, rfl, rfl⟩

/-! ## Interrupt entry and return -/

theorem dispatch_eq {s : State} (h0 : s.regs.sp ≠ 0x0000) (h1 : s.regs.sp ≠ 0x0001) (h : s.canPush = true) :
    dispatch s = .next ((((s.acknowledge (lowestBit s.pending)).pushed s.pc).setPC (vector (lowestBit s.pending))).took 5) := by
  have hp : (s.acknowledge (lowestBit s.pending)).canPush = true := h
  simp only [dispatch, h0, h1, or_self, if_false, push16_eq _ hp, andThen_next]

theorem dispatch_eq_fault {s : State} (h : s.regs.sp = 0x0000 ∨ s.regs.sp = 0x0001) :
    dispatch s = raise (.dispatchPushToIE s.regs.sp) s := by
  simp only [dispatch, h, if_true]

theorem dispatch_eq_next {s t : State} (h : dispatch s = .next t) :
    s.canPush = true ∧
    t = (((s.acknowledge (lowestBit s.pending)).pushed s.pc).setPC (vector (lowestBit s.pending))).took 5 := by
  unfold dispatch at h
  split at h
  · exact absurd h raise_ne_next
  · obtain ⟨s1, h1, h2⟩ := andThen_eq_next h
    obtain ⟨hp, rfl⟩ := push16_eq_next h1
    cases h2
    exact ⟨hp, rfl⟩

theorem interruptReturn_eq {s : State} (h : s.canPop = true) :
    interruptReturn s = .next { s.popped.setPC s.popWord with ime := true, eiPending := false } := by
  unfold interruptReturn
  rw [pop16_eq h]
  rfl

/-! ## Fetch -/

theorem fetch8_eq {s : State} (h : s.canRead s.pc = true) :
    fetch8 s = .next (s.peek s.pc, (s.afterRead s.pc).setPC (s.pc + 1)) := by
  unfold fetch8
  simp only [memRead_eq h, andThen_next, State.afterRead_pc]

theorem fetch8_eq_next {s t : State} {v : Byte} (h : fetch8 s = .next (v, t)) :
    s.canRead s.pc = true ∧ v = s.peek s.pc ∧ t = (s.afterRead s.pc).setPC (s.pc + 1) := by
  obtain ⟨⟨b, s1⟩, h1, h2⟩ := andThen_eq_next h
  obtain ⟨hr, rfl, rfl⟩ := memRead_eq_next h1
  cases h2
  exact ⟨hr, rfl, by rw [State.afterRead_pc]⟩

theorem fetchOpcode_eq {s : State} (h : s.canRead s.pc = true) :
    fetchOpcode s = .next (s.peek s.pc, afterOpcode (s.afterRead s.pc)) := by
  unfold fetchOpcode
  simp only [memRead_eq h, andThen_next]

theorem fetchOpcode_eq_next {s t : State} {v : Byte} (h : fetchOpcode s = .next (v, t)) :
    s.canRead s.pc = true ∧ v = s.peek s.pc ∧ t = afterOpcode (s.afterRead s.pc) := by
  obtain ⟨⟨b, s1⟩, h1, h2⟩ := andThen_eq_next h
  obtain ⟨hr, rfl, rfl⟩ := memRead_eq_next h1
  cases h2
  exact ⟨hr, rfl, rfl⟩

/-- R101: PC after the opcode byte, and nothing else but the HALT bug's end. -/
theorem afterOpcode_eq (s : State) :
    afterOpcode s = { s with haltBug := false, pc := if s.haltBug then s.pc else s.pc + 1 } := by
  obtain ⟨_, _, _, _, _, hb, _⟩ := s
  cases hb <;> rfl

end Sys2Proof.Machine
end

