-- ==== Sys2Proof/Laws/Fetch.lean ====
section
/-! SUPPORT. What the fetch answers (`30_encoding.md` R101, R102): the instruction the bytes decode to, with PC past them.
Also what the descriptor of a decoded opcode says. -/

namespace Sys2Proof.Machine

/-! ## The descriptors of the decoded opcodes -/

/-- R104, R126: a base opcode's instruction has that opcode byte and as many operand bytes as the fetch reads. -/
theorem descriptor_decodeBase : ∀ op : Byte, op ≠ prefixByte → ∀ lo hi,
    (descriptor (decodeBase op lo hi)).extended = false ∧ (descriptor (decodeBase op lo hi)).opcode = op ∧
    (encode (decodeBase op lo hi)).length = operandCount op + 1 := by
  intro op
  have hop : op = BitVec.ofNat 8 op.toNat := by simp
  have : op.toNat < 256 := op.isLt
  generalize op.toNat = n at *
  subst hop
  intro h lo hi
  interval_cases n <;> exact ⟨rfl, rfl, rfl⟩

/-- R104, R120, R126: the same for an extended opcode; it has no operand. -/
theorem descriptor_decodeExt : ∀ op : Byte,
    (descriptor (decodeExt op)).extended = true ∧ (descriptor (decodeExt op)).opcode = op ∧
    (encode (decodeExt op)).length = 2 := by
  intro op
  have hop : op = BitVec.ofNat 8 op.toNat := by simp
  have : op.toNat < 256 := op.isLt
  generalize op.toNat = n at *
  subst hop
  interval_cases n <;> exact ⟨rfl, rfl, rfl⟩

theorem isAbsent_spec : ∀ op : Byte, isAbsent op = true → operandCount op = 0 ∧ op ≠ prefixByte := by decide

theorem operandCount_le : ∀ op : Byte, operandCount op ≤ 2 := by decide

/-! ## A fetch under way: PC, the opcode's address and the HALT bug change no read -/

theorem State.peek_fetching (s : State) (pc opAddr : Word) (hb : Bool) (a : Word) :
    State.peek { s with pc := pc, opAddr := opAddr, haltBug := hb } a = s.peek a := by
  unfold State.peek
  cases region a <;> rfl

theorem State.afterRead_fetching (s : State) (pc opAddr : Word) (hb : Bool) (a : Word) :
    State.afterRead { s with pc := pc, opAddr := opAddr, haltBug := hb } a =
      { s.afterRead a with pc := pc, opAddr := opAddr, haltBug := hb } := by
  unfold State.afterRead
  split <;> rfl

/-- R101: the opcode byte, read at PC. -/
theorem fetchOpcode_spec {s : State} (hr : s.canRead s.pc = true) :
    fetchOpcode { s with opAddr := s.pc } =
      .next (s.peek s.pc, { s.afterRead s.pc with
        pc := if s.haltBug then s.pc else s.pc + 1, opAddr := s.pc, haltBug := false }) := by
  have hs : ({ s with opAddr := s.pc } : State) = { s with pc := s.pc, opAddr := s.pc, haltBug := s.haltBug } := rfl
  rw [fetchOpcode_eq (by rw [State.canRead_congr (t := { s with opAddr := s.pc }) (s := s) rfl]; exact hr)]
  dsimp only
  rw [hs, State.peek_fetching, State.afterRead_fetching, afterOpcode_eq]

/-- R101: an operand byte, read at PC. -/
theorem fetch8_fetching (u : State) (x y : Word) (hr : u.canRead x = true) :
    fetch8 { u with pc := x, opAddr := y, haltBug := false } =
      .next (u.peek x, { u.afterRead x with pc := x + 1, opAddr := y, haltBug := false }) := by
  rw [fetch8_eq (by rw [State.canRead_congr (s := u) (by rfl)]; exact hr)]
  dsimp only
  rw [State.peek_fetching, State.afterRead_fetching]
  rfl

theorem State.canReads_succ {s : State} {n : Nat} {a : Word} (h : s.canReads (n + 1) a = true) :
    s.canRead a = true ∧ s.canReads n (a + 1) = true := by
  simpa [State.canReads] using h

/-- Which reads fault depends on the parameters alone. -/
theorem State.canReads_congr {u v : State} (h : u.params = v.params) (n : Nat) (a : Word) :
    u.canReads n a = v.canReads n a := by
  induction n generalizing a with
  | zero => rfl
  | succ n ih => simp only [State.canReads, ih, State.canRead_congr h]

/-! ## The fetch -/

/-- R102 step 4: the operand bytes of a base opcode. -/
theorem fetchOperands_spec {u : State} {op : Byte} {x y : Word} {rest : List Byte} {i : Instr} (hp : op ≠ prefixByte)
    (hd : decode (op :: u.bytesAt 2 x) = .ok (i, rest)) (hc : u.canReads (operandCount op) x = true) :
    fetchOperands op { u with pc := x, opAddr := y, haltBug := false } =
      .next (i, { u.afterReads (operandCount op) x with
        pc := x + BitVec.ofNat 16 (operandCount op), opAddr := y, haltBug := false }) := by
  have hl := operandCount_le op
  simp only [decode, if_neg hp] at hd
  unfold fetchOperands
  match h : operandCount op, hl with
  | 0, _ =>
    rw [h] at hd
    simp only [State.bytesAt, Except.ok.injEq, Prod.mk.injEq] at hd
    rw [← hd.1]
    simp only [State.afterReads, BitVec.ofNat_eq_ofNat]
    rw [show x + 0#16 = x from BitVec.add_zero x]
  | 1, _ =>
    rw [h] at hd hc
    simp only [State.bytesAt, Except.ok.injEq, Prod.mk.injEq] at hd
    simp only [fetch8_fetching _ _ _ (State.canReads_succ hc).1, andThen_next]
    rw [hd.1]
    rfl
  | 2, _ =>
    rw [h] at hd hc
    simp only [State.bytesAt, Except.ok.injEq, Prod.mk.injEq] at hd
    obtain ⟨h1, h2⟩ := State.canReads_succ hc
    simp only [fetch8_fetching _ _ _ h1, andThen_next]
    rw [fetch8_fetching _ _ _ (by rw [State.canRead_afterRead]; exact (State.canReads_succ h2).1)]
    simp only [andThen_next]
    refine congrArg Host.Outcome.next (Prod.ext hd.1 ?_)
    simp only [State.afterReads]
    rw [BitVec.add_assoc]
    rfl

/-- R101, R102: the whole fetch, with or without the HALT bug: the instruction the bytes decode to, at the state past
them. -/
theorem fetchInstr_spec {s : State} {i : Instr} {rest : List Byte}
    (hd : decode (s.peek s.pc :: (s.afterRead s.pc).bytesAt 2 (if s.haltBug then s.pc else s.pc + 1)) = .ok (i, rest))
    (hr : s.canRead s.pc = true)
    (hrs : s.canReads ((encode i).length - 1) (if s.haltBug then s.pc else s.pc + 1) = true)
    (hn : (descriptor i).extended = false ∧ isAbsent (descriptor i).opcode = true ∨
      s.refuses (descriptor i).extended (descriptor i).opcode = false) :
    fetchInstr s =
      .next (i, { (s.afterRead s.pc).afterReads ((encode i).length - 1) (if s.haltBug then s.pc else s.pc + 1) with
        pc := (if s.haltBug then s.pc else s.pc + 1) + BitVec.ofNat 16 ((encode i).length - 1),
        opAddr := s.pc, haltBug := false }) := by
  unfold fetchInstr
  rw [fetchOpcode_spec hr]
  simp only [andThen_next]
  generalize (if s.haltBug = true then s.pc else s.pc + 1) = x at hd hrs ⊢
  have hpar : (s.afterRead s.pc).params = s.params := by simp
  by_cases hp : s.peek s.pc = prefixByte
  · rw [if_pos hp]
    simp only [decode, if_pos hp, State.bytesAt, Except.ok.injEq, Prod.mk.injEq] at hd
    obtain ⟨he, _⟩ := hd
    have := descriptor_decodeExt ((s.afterRead s.pc).peek x)
    rw [he] at this
    rw [this.2.2] at hrs ⊢
    rw [this.1, this.2.1] at hn
    unfold fetchExtended
    rw [fetch8_fetching _ _ _ (by rw [State.canRead_afterRead]; exact (State.canReads_succ hrs).1)]
    simp only [andThen_next]
    rw [if_neg]
    · rw [he]
      rfl
    · rcases hn with hn | hn
      · exact absurd hn.1 (by decide)
      · simp only [State.refuses] at hn ⊢
        simpa using hn
  · rw [if_neg hp]
    have hcnt : ∃ lo hi, i = decodeBase (s.peek s.pc) lo hi := by
      simp only [decode, if_neg hp] at hd
      split at hd <;> cases hd <;> exact ⟨_, _, rfl⟩
    obtain ⟨lo, hi, rfl⟩ := hcnt
    have hdb := descriptor_decodeBase _ hp lo hi
    rw [hdb.2.2] at hrs ⊢
    rw [hdb.1, hdb.2.1] at hn
    simp only [Nat.add_sub_cancel] at hrs ⊢
    by_cases ha : isAbsent (s.peek s.pc) = true
    · rw [if_pos ha]
      have h0 := (isAbsent_spec _ ha).1
      simp only [decode, if_neg hp, h0, Except.ok.injEq, Prod.mk.injEq] at hd
      rw [h0, hd.1]
      simp [State.afterReads]
    · rw [if_neg ha, if_neg, fetchOperands_spec hp hd (by rw [State.canReads_congr hpar]; exact hrs)]
      rcases hn with hn | hn
      · exact absurd hn.2 ha
      · simp only [State.refuses] at hn ⊢
        simpa using hn

/-- R102 step 4: a fetch of operands that succeeds could read them. -/
theorem fetchOperands_eq_next {u : State} {op : Byte} {r : Instr × State} (h : fetchOperands op u = .next r) :
    u.canReads (operandCount op) u.pc = true := by
  have hl := operandCount_le op
  unfold fetchOperands at h
  match hc : operandCount op, hl with
  | 0, _ => rfl
  | 1, _ =>
    rw [hc] at h
    obtain ⟨_, h1, _⟩ := andThen_eq_next h
    simp [State.canReads, (fetch8_eq_next h1).1]
  | 2, _ =>
    rw [hc] at h
    obtain ⟨_, h1, h2⟩ := andThen_eq_next h
    obtain ⟨hr1, _, e⟩ := fetch8_eq_next h1
    obtain ⟨_, h3, _⟩ := andThen_eq_next h2
    have hr2 := (fetch8_eq_next h3).1
    rw [e] at hr2
    simp [State.canReads, hr1]
    simpa using hr2

/-- R101, R102: a fetch that succeeds could read the instruction's bytes, and the instruction is absent or not refused:
with `fetchInstr_spec`, it is the one those bytes decode to. -/
theorem fetchInstr_eq_next {s : State} {i : Instr} {rest : List Byte} {r : Instr × State}
    (hd : decode (s.peek s.pc :: (s.afterRead s.pc).bytesAt 2 (if s.haltBug then s.pc else s.pc + 1)) = .ok (i, rest))
    (h : fetchInstr s = .next r) :
    s.canRead s.pc = true ∧
    s.canReads ((encode i).length - 1) (if s.haltBug then s.pc else s.pc + 1) = true ∧
    ((descriptor i).extended = false ∧ isAbsent (descriptor i).opcode = true ∨
      s.refuses (descriptor i).extended (descriptor i).opcode = false) := by
  obtain ⟨⟨op, s1⟩, h1, h2⟩ := andThen_eq_next h
  have hr : s.canRead s.pc = true := by
    have := (fetchOpcode_eq_next h1).1
    rwa [State.canRead_congr (t := { s with opAddr := s.pc }) (s := s) rfl] at this
  rw [fetchOpcode_spec hr] at h1
  cases h1
  refine ⟨hr, ?_⟩
  generalize (if s.haltBug = true then s.pc else s.pc + 1) = x at hd h2 ⊢
  simp only at h2
  by_cases hp : s.peek s.pc = prefixByte
  · rw [if_pos hp] at h2
    simp only [decode, if_pos hp, State.bytesAt, Except.ok.injEq, Prod.mk.injEq] at hd
    obtain ⟨rfl, _⟩ := hd
    have he := descriptor_decodeExt ((s.afterRead s.pc).peek x)
    obtain ⟨⟨op', s2⟩, h3, h4⟩ := andThen_eq_next h2
    obtain ⟨hx, e1, e2⟩ := fetch8_eq_next h3
    simp only [State.peek_fetching, State.afterRead_fetching] at e1 e2
    subst e1 e2
    simp only at h4
    split at h4
    · exact absurd h4 raise_ne_next
    · next hn =>
      rw [he.1, he.2.1, he.2.2]
      refine ⟨?_, .inr ?_⟩
      · rw [State.canRead_congr (s := s) (by simp)] at hx
        simpa [State.canReads] using hx
      · simpa [State.refuses] using hn
  · rw [if_neg hp] at h2
    have hcnt : ∃ lo hi, i = decodeBase (s.peek s.pc) lo hi := by
      simp only [decode, if_neg hp] at hd
      split at hd <;> cases hd <;> exact ⟨_, _, rfl⟩
    obtain ⟨lo, hi, rfl⟩ := hcnt
    have hdb := descriptor_decodeBase _ hp lo hi
    rw [hdb.1, hdb.2.1, hdb.2.2, Nat.add_sub_cancel]
    by_cases ha : isAbsent (s.peek s.pc) = true
    · exact ⟨by rw [(isAbsent_spec _ ha).1]; rfl, .inl ⟨rfl, ha⟩⟩
    · rw [if_neg ha] at h2
      split at h2
      · exact absurd h2 raise_ne_next
      · next hn =>
        refine ⟨?_, .inr (by simpa [State.refuses] using hn)⟩
        have := fetchOperands_eq_next h2
        rwa [State.canReads_congr (v := s) (by simp)] at this
end Sys2Proof.Machine
end

