-- ==== Sys2Proof/Laws/Frames.lean ====
section
/-! SUPPORT. The frames' parts: what a read, a store and a write of CPU registers leave alone, in the terms of
`OnlyRegisters` and `OnlyStores`, and how they compose. -/

namespace Sys2Proof.Machine

/-! ## Registers only -/

theorem OnlyRegisters.refl (s : State) : OnlyRegisters s s :=
  ⟨⟨rfl, rfl, rfl, rfl, rfl, rfl, rfl, rfl, rfl, rfl, rfl⟩, ⟨rfl, rfl, rfl, rfl, rfl, rfl, rfl⟩, rfl, fun _ _ _ => rfl⟩

/-- A state that differs in the registers, PC, the cycle count and the `draw()` counter alone. -/
theorem OnlyRegisters.of_eq {s t : State}
    (h : t = { s with regs := t.regs, pc := t.pc, draws := t.draws, stepCycles := t.stepCycles }) : OnlyRegisters s t := by
  rw [h]
  refine ⟨⟨rfl, rfl, rfl, rfl, rfl, rfl, rfl, rfl, rfl, rfl, rfl⟩, ⟨rfl, rfl, rfl, rfl, rfl, rfl, rfl⟩, rfl, ?_⟩
  intro b hb _
  exact State.peek_congr hb rfl rfl rfl rfl rfl rfl rfl rfl rfl rfl

/-- R65: a read moves the `draw()` counter alone. -/
theorem State.afterRead_eq (s : State) (a : Word) : s.afterRead a = { s with draws := (s.afterRead a).draws } := by
  unfold State.afterRead
  split <;> rfl

/-- R101: so do the reads of a fetch. -/
theorem State.afterReads_eq (n : Nat) (a : Word) (s : State) :
    s.afterReads n a = { s with draws := (s.afterReads n a).draws } := by
  induction n generalizing a s with
  | zero => rfl
  | succ n ih =>
    simp only [State.afterReads]
    rw [ih, s.afterRead_eq a]

theorem State.afterOperand_eq (s : State) (o : Operand8) :
    s.afterOperand o = { s with draws := (s.afterOperand o).draws } := by
  cases o with
  | reg r => rfl
  | atHL => exact s.afterRead_eq _

/-- R260: a pop moves SP and the `draw()` counter alone. -/
theorem State.popped_eq (s : State) :
    s.popped = { s with regs := { s.regs with sp := s.regs.sp + 2 }, draws := s.popped.draws } := by
  unfold State.popped State.afterReads State.afterReads State.afterReads
  rw [State.afterRead_eq (s.afterRead s.regs.sp), State.afterRead_eq s]
  rfl

/-! ## Stores -/

/-- R66: a store leaves everything but what its address names. -/
theorem OnlyStores.poke (s : State) (a : Word) (v : Byte) : OnlyStores [a] s (s.poke a v) := by
  refine ⟨by simp [SameControl], by simp, ?_, fun b _ h => s.peek_poke_other v (h a (List.mem_singleton.2 rfl))⟩
  have hone : ∀ x, (x ∉ [a]) ↔ a ≠ x := fun x => by simp [eq_comm]
  simp only [SameDevicesBut, hone]
  rcases s.poke_cases a v with ⟨hr, he⟩ | ⟨hr, he⟩ | he | ⟨_, he⟩ <;> rw [he]
  · have ho := ioRegAt_offset (loByte a)
    have hx : ∀ x : Word, region x = .io → a ≠ x → loByte a ≠ loByte x := fun x hx hne h => hne (io_address_ext hr hx h)
    have hdiv : a ≠ 0xFF04 → ioReg a ≠ .div := fun h hq => hx _ (by decide) h (ho.1 hq)
    have htima : a ≠ 0xFF05 → ioReg a ≠ .tima := fun h hq => hx _ (by decide) h (ho.2.1 hq)
    have htma : a ≠ 0xFF06 → ioReg a ≠ .tma := fun h hq => hx _ (by decide) h (ho.2.2.1 hq)
    have htac : a ≠ 0xFF07 → ioReg a ≠ .tac := fun h hq => hx _ (by decide) h (ho.2.2.2.1 hq)
    have hif : a ≠ 0xFF0F → ioReg a ≠ .ifReg := fun h hq => hx _ (by decide) h (ho.2.2.2.2.1 hq)
    have hlcdc : a ≠ 0xFF40 → ioReg a ≠ .lcdc := fun h hq => hx _ (by decide) h (ho.2.2.2.2.2.1 hq)
    have hboot : a ≠ 0xFF50 → ioReg a ≠ .boot := fun h hq => hx _ (by decide) h (ho.2.2.2.2.2.2.2 hq)
    unfold State.ioPoke
    refine ⟨fun _ => ?_, fun h => ?_, fun h => ?_, fun h => ?_, fun h => ?_, fun h => ?_, fun h => ?_, fun h => ?_,
      ?_, ?_, ?_, fun b h => ?_⟩ <;> cases hq : ioReg a
    all_goals first
      | rfl
      | exact ⟨rfl, rfl, rfl⟩
      | exact absurd hq (hdiv h)
      | exact absurd hq (htima h)
      | exact absurd hq (htma h)
      | exact absurd hq (htac h)
      | exact absurd hq (hif h)
      | exact absurd hq (hlcdc h)
      | exact absurd hq (hboot h)
      | exact Mem.read_write_other _ v fun hab => h (BitVec.eq_of_toNat_eq hab)
      | (dsimp only; split <;> first | rfl | exact ⟨rfl, rfl, rfl⟩)
      | (unfold Timer.writeTima; dsimp only; split <;> rfl)
  · refine ⟨fun h => absurd (region_ie_address hr) h, ?_⟩
    exact ⟨fun _ => rfl, fun _ => rfl, fun _ => rfl, fun _ => rfl, fun _ => ⟨rfl, rfl, rfl⟩, fun _ => rfl, fun _ => rfl,
      rfl, rfl, rfl, fun _ _ => rfl⟩
  all_goals
    exact ⟨fun _ => rfl, fun _ => rfl, fun _ => rfl, fun _ => rfl, fun _ => rfl, fun _ => ⟨rfl, rfl, rfl⟩, fun _ => rfl,
      fun _ => rfl, rfl, rfl, rfl, fun _ _ => rfl⟩

/-- Registers, PC, the cycle count and the `draw()` counter written before a store change nothing of its frame. -/
theorem OnlyStores.of_eq_left {w : List Word} {s u t : State}
    (hu : u = { s with regs := u.regs, pc := u.pc, draws := u.draws, stepCycles := u.stepCycles })
    (h : OnlyStores w u t) : OnlyStores w s t := by
  have hp : ∀ b, drawnAt b = false → u.peek b = s.peek b :=
    fun b hb => (OnlyRegisters.of_eq hu).2.2.2 b hb (by simp)
  have ht : ∀ a b, u.touches a b = s.touches a b := by rw [hu]; exact fun _ _ => rfl
  obtain ⟨hc, hppu, hd, hb⟩ := h
  rw [hu] at hc hppu hd
  exact ⟨hc, hppu, hd, fun b hdb hw => (hb b hdb fun a ha => (ht a b).trans (hw a ha)).trans (hp b hdb)⟩

/-- The same after a store. -/
theorem OnlyStores.of_eq_right {w : List Word} {s u t : State}
    (ht : t = { u with regs := t.regs, pc := t.pc, draws := t.draws, stepCycles := t.stepCycles })
    (h : OnlyStores w s u) : OnlyStores w s t := by
  have hp : ∀ b, drawnAt b = false → t.peek b = u.peek b :=
    fun b hb => (OnlyRegisters.of_eq ht).2.2.2 b hb (by simp)
  obtain ⟨hc, hppu, hd, hb⟩ := h
  rw [ht]
  rw [ht] at hp
  exact ⟨hc, hppu, hd, fun b hdb hw => (hp b hdb).trans (hb b hdb hw)⟩

/-- Two stores, one after the other. -/
theorem OnlyStores.trans {v w : List Word} {s t u : State} (h : OnlyStores v s t) (h' : OnlyStores w t u) :
    OnlyStores (v ++ w) s u := by
  have hpar : t.params = s.params := h.1.2.2.2.2.2.2.2.2.2.1
  have ht : ∀ a b, t.touches a b = s.touches a b := fun a b => by simp [State.touches, State.home_congr hpar]
  obtain ⟨hc, hppu, hd, hb⟩ := h
  obtain ⟨hc', hppu', hd', hb'⟩ := h'
  refine ⟨?_, hppu'.trans hppu, ?_, fun b hdb hw => ?_⟩
  · obtain ⟨a1, a2, a3, a4, a5, a6, a7, a8, a9, a10, a11⟩ := hc
    obtain ⟨b1, b2, b3, b4, b5, b6, b7, b8, b9, b10, b11⟩ := hc'
    exact ⟨b1.trans a1, b2.trans a2, b3.trans a3, b4.trans a4, b5.trans a5, b6.trans a6, b7.trans a7, b8.trans a8,
      b9.trans a9, b10.trans a10, b11.trans a11⟩
  · have hm : ∀ x, x ∉ v ++ w → x ∉ v ∧ x ∉ w := fun x hx => by simpa [not_or] using hx
    obtain ⟨a1, a2, a3, a4, a5, a6, a7, a8, a9, a10, a11, a12⟩ := hd
    obtain ⟨b1, b2, b3, b4, b5, b6, b7, b8, b9, b10, b11, b12⟩ := hd'
    refine ⟨fun h => (b1 (hm _ h).2).trans (a1 (hm _ h).1), fun h => (b2 (hm _ h).2).trans (a2 (hm _ h).1),
      fun h => (b3 (hm _ h).2).trans (a3 (hm _ h).1), fun h => (b4 (hm _ h).2).trans (a4 (hm _ h).1),
      fun h => (b5 (hm _ h).2).trans (a5 (hm _ h).1), fun h => ?_, fun h => (b7 (hm _ h).2).trans (a7 (hm _ h).1),
      fun h => (b8 (hm _ h).2).trans (a8 (hm _ h).1), b9.trans a9, b10.trans a10, b11.trans a11,
      fun x h => (b12 x (hm _ h).2).trans (a12 x (hm _ h).1)⟩
    have p := a6 (hm _ h).1
    have q := b6 (hm _ h).2
    exact ⟨q.1.trans p.1, q.2.1.trans p.2.1, q.2.2.trans p.2.2⟩
  · refine (hb' b hdb fun a ha => ?_).trans (hb b hdb fun a ha => hw a (List.mem_append_left w ha))
    rw [ht]
    exact hw a (List.mem_append_right v ha)

/-- R260: the stores of a push. -/
theorem OnlyStores.pushed (s : State) (v : Word) : OnlyStores [s.regs.sp - 1, s.regs.sp - 2] s (s.pushed v) :=
  OnlyStores.of_eq_right rfl ((OnlyStores.poke s _ _).trans (OnlyStores.poke _ _ _))

end Sys2Proof.Machine
end

