-- ==== Sys2Proof/Laws/Shapes.lean ====
section
/-! SUPPORT. The shapes of instructions: every row of the table is a row function of Decode at some operands, and `exec`
of it is the family's shared operation at the same operands. A statement over all instructions is proved shape by shape
(`shape_of`), not constructor by constructor. -/

namespace Sys2Proof.Machine

/-- The instruction families by operand. -/
inductive Shape : Instr → Prop where
  | nop : Shape .nop
  | stop (n : Byte) : Shape (.stop n)
  | halt : Shape .halt
  | di : Shape .di
  | ei : Shape .ei
  | jr (n : Byte) : Shape (.jr_e8 n)
  | jrCond (cc : Cond) (n : Byte) : Shape (rowJrCond cc n)
  | jp (a : Word) : Shape (.jp_a16 a)
  | jpCond (cc : Cond) (a : Word) : Shape (rowJpCond cc a)
  | jpHL : Shape .jp_hl
  | call (a : Word) : Shape (.call_a16 a)
  | callCond (cc : Cond) (a : Word) : Shape (rowCallCond cc a)
  | ret : Shape .ret
  | retCond (cc : Cond) : Shape (rowRetCond cc)
  | reti : Shape .reti
  | rst (y : Fin 8) : Shape (rowRst y)
  | ld (dst src : Operand8) (h : dst = .atHL → src ≠ .atHL) : Shape (rowLd8 dst src)
  | ldImm (dst : Operand8) (n : Byte) : Shape (rowLdImm8 dst n)
  | storeIndirect (k : IndirectA) : Shape (rowStoreA k)
  | loadIndirect (k : IndirectA) : Shape (rowLoadA k)
  | ldImm16 (r : R16) (v : Word) : Shape (rowLdImm16 r v)
  | storeSP (a : Word) : Shape (.ld_atA16_sp a)
  | ldSPHL : Shape .ld_sp_hl
  | ldHLSP (n : Byte) : Shape (.ld_hl_spE8 n)
  | storeAbs (a : Word) : Shape (.ld_atA16_a a)
  | loadAbs (a : Word) : Shape (.ld_a_atA16 a)
  | ldhStore (n : Byte) : Shape (.ldh_atA8_a n)
  | ldhLoad (n : Byte) : Shape (.ldh_a_atA8 n)
  | storeC : Shape .ld_atC_a
  | loadC : Shape .ld_a_atC
  | push (r : R16Stk) : Shape (rowPush r)
  | pop (r : R16Stk) : Shape (rowPop r)
  | inc8 (o : Operand8) : Shape (rowInc8 o)
  | dec8 (o : Operand8) : Shape (rowDec8 o)
  | inc16 (r : R16) : Shape (rowInc16 r)
  | dec16 (r : R16) : Shape (rowDec16 r)
  | alu (op : AluOp) (o : Operand8) : Shape (rowAlu op o)
  | aluImm (op : AluOp) (n : Byte) : Shape (rowAluImm op n)
  | addHL (r : R16) : Shape (rowAddHL r)
  | addSP (n : Byte) : Shape (.add_sp_e8 n)
  | rlca : Shape .rlca
  | rrca : Shape .rrca
  | rla : Shape .rla
  | rra : Shape .rra
  | daa : Shape .daa
  | cpl : Shape .cpl
  | scf : Shape .scf
  | ccf : Shape .ccf
  | rot (op : RotOp) (o : Operand8) : Shape (rowRot op o)
  | bit (b : Fin 8) (o : Operand8) : Shape (rowBit b o)
  | res (b : Fin 8) (o : Operand8) : Shape (rowRes b o)
  | set (b : Fin 8) (o : Operand8) : Shape (rowSet b o)
  | prefixed : Shape .prefixCB
  | absent (op : Byte) (h : isAbsent op = true) : Shape (decodeBase op 0 0)

/-- Every instruction has a shape. -/
theorem shape_of (i : Instr) : Shape i := by
  cases i with
  | nop => exact .nop
  | ld_bc_d16 v => exact .ldImm16 .bc v
  | ld_atBC_a => exact .storeIndirect .bc
  | inc_bc => exact .inc16 .bc
  | inc_b => exact .inc8 (.reg .b)
  | dec_b => exact .dec8 (.reg .b)
  | ld_b_d8 n => exact .ldImm (.reg .b) n
  | rlca => exact .rlca
  | ld_atA16_sp a => exact .storeSP a
  | add_hl_bc => exact .addHL .bc
  | ld_a_atBC => exact .loadIndirect .bc
  | dec_bc => exact .dec16 .bc
  | inc_c => exact .inc8 (.reg .c)
  | dec_c => exact .dec8 (.reg .c)
  | ld_c_d8 n => exact .ldImm (.reg .c) n
  | rrca => exact .rrca
  | stop n => exact .stop n
  | ld_de_d16 v => exact .ldImm16 .de v
  | ld_atDE_a => exact .storeIndirect .de
  | inc_de => exact .inc16 .de
  | inc_d => exact .inc8 (.reg .d)
  | dec_d => exact .dec8 (.reg .d)
  | ld_d_d8 n => exact .ldImm (.reg .d) n
  | rla => exact .rla
  | jr_e8 n => exact .jr n
  | add_hl_de => exact .addHL .de
  | ld_a_atDE => exact .loadIndirect .de
  | dec_de => exact .dec16 .de
  | inc_e => exact .inc8 (.reg .e)
  | dec_e => exact .dec8 (.reg .e)
  | ld_e_d8 n => exact .ldImm (.reg .e) n
  | rra => exact .rra
  | jr_nz_e8 n => exact .jrCond .nz n
  | ld_hl_d16 v => exact .ldImm16 .hl v
  | ld_atHLi_a => exact .storeIndirect .hli
  | inc_hl => exact .inc16 .hl
  | inc_h => exact .inc8 (.reg .h)
  | dec_h => exact .dec8 (.reg .h)
  | ld_h_d8 n => exact .ldImm (.reg .h) n
  | daa => exact .daa
  | jr_z_e8 n => exact .jrCond .z n
  | add_hl_hl => exact .addHL .hl
  | ld_a_atHLi => exact .loadIndirect .hli
  | dec_hl => exact .dec16 .hl
  | inc_l => exact .inc8 (.reg .l)
  | dec_l => exact .dec8 (.reg .l)
  | ld_l_d8 n => exact .ldImm (.reg .l) n
  | cpl => exact .cpl
  | jr_nc_e8 n => exact .jrCond .nc n
  | ld_sp_d16 v => exact .ldImm16 .sp v
  | ld_atHLd_a => exact .storeIndirect .hld
  | inc_sp => exact .inc16 .sp
  | inc_atHL => exact .inc8 .atHL
  | dec_atHL => exact .dec8 .atHL
  | ld_atHL_d8 n => exact .ldImm .atHL n
  | scf => exact .scf
  | jr_c_e8 n => exact .jrCond .c n
  | add_hl_sp => exact .addHL .sp
  | ld_a_atHLd => exact .loadIndirect .hld
  | dec_sp => exact .dec16 .sp
  | inc_a => exact .inc8 (.reg .a)
  | dec_a => exact .dec8 (.reg .a)
  | ld_a_d8 n => exact .ldImm (.reg .a) n
  | ccf => exact .ccf
  | ld_b_b => exact .ld (.reg .b) (.reg .b) nofun
  | ld_b_c => exact .ld (.reg .b) (.reg .c) nofun
  | ld_b_d => exact .ld (.reg .b) (.reg .d) nofun
  | ld_b_e => exact .ld (.reg .b) (.reg .e) nofun
  | ld_b_h => exact .ld (.reg .b) (.reg .h) nofun
  | ld_b_l => exact .ld (.reg .b) (.reg .l) nofun
  | ld_b_atHL => exact .ld (.reg .b) .atHL nofun
  | ld_b_a => exact .ld (.reg .b) (.reg .a) nofun
  | ld_c_b => exact .ld (.reg .c) (.reg .b) nofun
  | ld_c_c => exact .ld (.reg .c) (.reg .c) nofun
  | ld_c_d => exact .ld (.reg .c) (.reg .d) nofun
  | ld_c_e => exact .ld (.reg .c) (.reg .e) nofun
  | ld_c_h => exact .ld (.reg .c) (.reg .h) nofun
  | ld_c_l => exact .ld (.reg .c) (.reg .l) nofun
  | ld_c_atHL => exact .ld (.reg .c) .atHL nofun
  | ld_c_a => exact .ld (.reg .c) (.reg .a) nofun
  | ld_d_b => exact .ld (.reg .d) (.reg .b) nofun
  | ld_d_c => exact .ld (.reg .d) (.reg .c) nofun
  | ld_d_d => exact .ld (.reg .d) (.reg .d) nofun
  | ld_d_e => exact .ld (.reg .d) (.reg .e) nofun
  | ld_d_h => exact .ld (.reg .d) (.reg .h) nofun
  | ld_d_l => exact .ld (.reg .d) (.reg .l) nofun
  | ld_d_atHL => exact .ld (.reg .d) .atHL nofun
  | ld_d_a => exact .ld (.reg .d) (.reg .a) nofun
  | ld_e_b => exact .ld (.reg .e) (.reg .b) nofun
  | ld_e_c => exact .ld (.reg .e) (.reg .c) nofun
  | ld_e_d => exact .ld (.reg .e) (.reg .d) nofun
  | ld_e_e => exact .ld (.reg .e) (.reg .e) nofun
  | ld_e_h => exact .ld (.reg .e) (.reg .h) nofun
  | ld_e_l => exact .ld (.reg .e) (.reg .l) nofun
  | ld_e_atHL => exact .ld (.reg .e) .atHL nofun
  | ld_e_a => exact .ld (.reg .e) (.reg .a) nofun
  | ld_h_b => exact .ld (.reg .h) (.reg .b) nofun
  | ld_h_c => exact .ld (.reg .h) (.reg .c) nofun
  | ld_h_d => exact .ld (.reg .h) (.reg .d) nofun
  | ld_h_e => exact .ld (.reg .h) (.reg .e) nofun
  | ld_h_h => exact .ld (.reg .h) (.reg .h) nofun
  | ld_h_l => exact .ld (.reg .h) (.reg .l) nofun
  | ld_h_atHL => exact .ld (.reg .h) .atHL nofun
  | ld_h_a => exact .ld (.reg .h) (.reg .a) nofun
  | ld_l_b => exact .ld (.reg .l) (.reg .b) nofun
  | ld_l_c => exact .ld (.reg .l) (.reg .c) nofun
  | ld_l_d => exact .ld (.reg .l) (.reg .d) nofun
  | ld_l_e => exact .ld (.reg .l) (.reg .e) nofun
  | ld_l_h => exact .ld (.reg .l) (.reg .h) nofun
  | ld_l_l => exact .ld (.reg .l) (.reg .l) nofun
  | ld_l_atHL => exact .ld (.reg .l) .atHL nofun
  | ld_l_a => exact .ld (.reg .l) (.reg .a) nofun
  | ld_atHL_b => exact .ld .atHL (.reg .b) nofun
  | ld_atHL_c => exact .ld .atHL (.reg .c) nofun
  | ld_atHL_d => exact .ld .atHL (.reg .d) nofun
  | ld_atHL_e => exact .ld .atHL (.reg .e) nofun
  | ld_atHL_h => exact .ld .atHL (.reg .h) nofun
  | ld_atHL_l => exact .ld .atHL (.reg .l) nofun
  | halt => exact .halt
  | ld_atHL_a => exact .ld .atHL (.reg .a) nofun
  | ld_a_b => exact .ld (.reg .a) (.reg .b) nofun
  | ld_a_c => exact .ld (.reg .a) (.reg .c) nofun
  | ld_a_d => exact .ld (.reg .a) (.reg .d) nofun
  | ld_a_e => exact .ld (.reg .a) (.reg .e) nofun
  | ld_a_h => exact .ld (.reg .a) (.reg .h) nofun
  | ld_a_l => exact .ld (.reg .a) (.reg .l) nofun
  | ld_a_atHL => exact .ld (.reg .a) .atHL nofun
  | ld_a_a => exact .ld (.reg .a) (.reg .a) nofun
  | add_a_b => exact .alu .add (.reg .b)
  | add_a_c => exact .alu .add (.reg .c)
  | add_a_d => exact .alu .add (.reg .d)
  | add_a_e => exact .alu .add (.reg .e)
  | add_a_h => exact .alu .add (.reg .h)
  | add_a_l => exact .alu .add (.reg .l)
  | add_a_atHL => exact .alu .add .atHL
  | add_a_a => exact .alu .add (.reg .a)
  | adc_a_b => exact .alu .adc (.reg .b)
  | adc_a_c => exact .alu .adc (.reg .c)
  | adc_a_d => exact .alu .adc (.reg .d)
  | adc_a_e => exact .alu .adc (.reg .e)
  | adc_a_h => exact .alu .adc (.reg .h)
  | adc_a_l => exact .alu .adc (.reg .l)
  | adc_a_atHL => exact .alu .adc .atHL
  | adc_a_a => exact .alu .adc (.reg .a)
  | sub_b => exact .alu .sub (.reg .b)
  | sub_c => exact .alu .sub (.reg .c)
  | sub_d => exact .alu .sub (.reg .d)
  | sub_e => exact .alu .sub (.reg .e)
  | sub_h => exact .alu .sub (.reg .h)
  | sub_l => exact .alu .sub (.reg .l)
  | sub_atHL => exact .alu .sub .atHL
  | sub_a => exact .alu .sub (.reg .a)
  | sbc_a_b => exact .alu .sbc (.reg .b)
  | sbc_a_c => exact .alu .sbc (.reg .c)
  | sbc_a_d => exact .alu .sbc (.reg .d)
  | sbc_a_e => exact .alu .sbc (.reg .e)
  | sbc_a_h => exact .alu .sbc (.reg .h)
  | sbc_a_l => exact .alu .sbc (.reg .l)
  | sbc_a_atHL => exact .alu .sbc .atHL
  | sbc_a_a => exact .alu .sbc (.reg .a)
  | and_b => exact .alu .and (.reg .b)
  | and_c => exact .alu .and (.reg .c)
  | and_d => exact .alu .and (.reg .d)
  | and_e => exact .alu .and (.reg .e)
  | and_h => exact .alu .and (.reg .h)
  | and_l => exact .alu .and (.reg .l)
  | and_atHL => exact .alu .and .atHL
  | and_a => exact .alu .and (.reg .a)
  | xor_b => exact .alu .xor (.reg .b)
  | xor_c => exact .alu .xor (.reg .c)
  | xor_d => exact .alu .xor (.reg .d)
  | xor_e => exact .alu .xor (.reg .e)
  | xor_h => exact .alu .xor (.reg .h)
  | xor_l => exact .alu .xor (.reg .l)
  | xor_atHL => exact .alu .xor .atHL
  | xor_a => exact .alu .xor (.reg .a)
  | or_b => exact .alu .or (.reg .b)
  | or_c => exact .alu .or (.reg .c)
  | or_d => exact .alu .or (.reg .d)
  | or_e => exact .alu .or (.reg .e)
  | or_h => exact .alu .or (.reg .h)
  | or_l => exact .alu .or (.reg .l)
  | or_atHL => exact .alu .or .atHL
  | or_a => exact .alu .or (.reg .a)
  | cp_b => exact .alu .cp (.reg .b)
  | cp_c => exact .alu .cp (.reg .c)
  | cp_d => exact .alu .cp (.reg .d)
  | cp_e => exact .alu .cp (.reg .e)
  | cp_h => exact .alu .cp (.reg .h)
  | cp_l => exact .alu .cp (.reg .l)
  | cp_atHL => exact .alu .cp .atHL
  | cp_a => exact .alu .cp (.reg .a)
  | ret_nz => exact .retCond .nz
  | pop_bc => exact .pop .bc
  | jp_nz_a16 a => exact .jpCond .nz a
  | jp_a16 a => exact .jp a
  | call_nz_a16 a => exact .callCond .nz a
  | push_bc => exact .push .bc
  | add_a_d8 n => exact .aluImm .add n
  | rst_00h => exact .rst 0
  | ret_z => exact .retCond .z
  | ret => exact .ret
  | jp_z_a16 a => exact .jpCond .z a
  | prefixCB => exact .prefixed
  | call_z_a16 a => exact .callCond .z a
  | call_a16 a => exact .call a
  | adc_a_d8 n => exact .aluImm .adc n
  | rst_08h => exact .rst 1
  | ret_nc => exact .retCond .nc
  | pop_de => exact .pop .de
  | jp_nc_a16 a => exact .jpCond .nc a
  | illegalD3 => exact .absent 0xD3 rfl
  | call_nc_a16 a => exact .callCond .nc a
  | push_de => exact .push .de
  | sub_d8 n => exact .aluImm .sub n
  | rst_10h => exact .rst 2
  | ret_c => exact .retCond .c
  | reti => exact .reti
  | jp_c_a16 a => exact .jpCond .c a
  | illegalDB => exact .absent 0xDB rfl
  | call_c_a16 a => exact .callCond .c a
  | illegalDD => exact .absent 0xDD rfl
  | sbc_a_d8 n => exact .aluImm .sbc n
  | rst_18h => exact .rst 3
  | ldh_atA8_a n => exact .ldhStore n
  | pop_hl => exact .pop .hl
  | ld_atC_a => exact .storeC
  | illegalE3 => exact .absent 0xE3 rfl
  | illegalE4 => exact .absent 0xE4 rfl
  | push_hl => exact .push .hl
  | and_d8 n => exact .aluImm .and n
  | rst_20h => exact .rst 4
  | add_sp_e8 n => exact .addSP n
  | jp_hl => exact .jpHL
  | ld_atA16_a a => exact .storeAbs a
  | illegalEB => exact .absent 0xEB rfl
  | illegalEC => exact .absent 0xEC rfl
  | illegalED => exact .absent 0xED rfl
  | xor_d8 n => exact .aluImm .xor n
  | rst_28h => exact .rst 5
  | ldh_a_atA8 n => exact .ldhLoad n
  | pop_af => exact .pop .af
  | ld_a_atC => exact .loadC
  | di => exact .di
  | illegalF4 => exact .absent 0xF4 rfl
  | push_af => exact .push .af
  | or_d8 n => exact .aluImm .or n
  | rst_30h => exact .rst 6
  | ld_hl_spE8 n => exact .ldHLSP n
  | ld_sp_hl => exact .ldSPHL
  | ld_a_atA16 a => exact .loadAbs a
  | ei => exact .ei
  | illegalFC => exact .absent 0xFC rfl
  | illegalFD => exact .absent 0xFD rfl
  | cp_d8 n => exact .aluImm .cp n
  | rst_38h => exact .rst 7
  | rlc_b => exact .rot .rlc (.reg .b)
  | rlc_c => exact .rot .rlc (.reg .c)
  | rlc_d => exact .rot .rlc (.reg .d)
  | rlc_e => exact .rot .rlc (.reg .e)
  | rlc_h => exact .rot .rlc (.reg .h)
  | rlc_l => exact .rot .rlc (.reg .l)
  | rlc_atHL => exact .rot .rlc .atHL
  | rlc_a => exact .rot .rlc (.reg .a)
  | rrc_b => exact .rot .rrc (.reg .b)
  | rrc_c => exact .rot .rrc (.reg .c)
  | rrc_d => exact .rot .rrc (.reg .d)
  | rrc_e => exact .rot .rrc (.reg .e)
  | rrc_h => exact .rot .rrc (.reg .h)
  | rrc_l => exact .rot .rrc (.reg .l)
  | rrc_atHL => exact .rot .rrc .atHL
  | rrc_a => exact .rot .rrc (.reg .a)
  | rl_b => exact .rot .rl (.reg .b)
  | rl_c => exact .rot .rl (.reg .c)
  | rl_d => exact .rot .rl (.reg .d)
  | rl_e => exact .rot .rl (.reg .e)
  | rl_h => exact .rot .rl (.reg .h)
  | rl_l => exact .rot .rl (.reg .l)
  | rl_atHL => exact .rot .rl .atHL
  | rl_a => exact .rot .rl (.reg .a)
  | rr_b => exact .rot .rr (.reg .b)
  | rr_c => exact .rot .rr (.reg .c)
  | rr_d => exact .rot .rr (.reg .d)
  | rr_e => exact .rot .rr (.reg .e)
  | rr_h => exact .rot .rr (.reg .h)
  | rr_l => exact .rot .rr (.reg .l)
  | rr_atHL => exact .rot .rr .atHL
  | rr_a => exact .rot .rr (.reg .a)
  | sla_b => exact .rot .sla (.reg .b)
  | sla_c => exact .rot .sla (.reg .c)
  | sla_d => exact .rot .sla (.reg .d)
  | sla_e => exact .rot .sla (.reg .e)
  | sla_h => exact .rot .sla (.reg .h)
  | sla_l => exact .rot .sla (.reg .l)
  | sla_atHL => exact .rot .sla .atHL
  | sla_a => exact .rot .sla (.reg .a)
  | sra_b => exact .rot .sra (.reg .b)
  | sra_c => exact .rot .sra (.reg .c)
  | sra_d => exact .rot .sra (.reg .d)
  | sra_e => exact .rot .sra (.reg .e)
  | sra_h => exact .rot .sra (.reg .h)
  | sra_l => exact .rot .sra (.reg .l)
  | sra_atHL => exact .rot .sra .atHL
  | sra_a => exact .rot .sra (.reg .a)
  | swap_b => exact .rot .swap (.reg .b)
  | swap_c => exact .rot .swap (.reg .c)
  | swap_d => exact .rot .swap (.reg .d)
  | swap_e => exact .rot .swap (.reg .e)
  | swap_h => exact .rot .swap (.reg .h)
  | swap_l => exact .rot .swap (.reg .l)
  | swap_atHL => exact .rot .swap .atHL
  | swap_a => exact .rot .swap (.reg .a)
  | srl_b => exact .rot .srl (.reg .b)
  | srl_c => exact .rot .srl (.reg .c)
  | srl_d => exact .rot .srl (.reg .d)
  | srl_e => exact .rot .srl (.reg .e)
  | srl_h => exact .rot .srl (.reg .h)
  | srl_l => exact .rot .srl (.reg .l)
  | srl_atHL => exact .rot .srl .atHL
  | srl_a => exact .rot .srl (.reg .a)
  | bit_0_b => exact .bit 0 (.reg .b)
  | bit_0_c => exact .bit 0 (.reg .c)
  | bit_0_d => exact .bit 0 (.reg .d)
  | bit_0_e => exact .bit 0 (.reg .e)
  | bit_0_h => exact .bit 0 (.reg .h)
  | bit_0_l => exact .bit 0 (.reg .l)
  | bit_0_atHL => exact .bit 0 .atHL
  | bit_0_a => exact .bit 0 (.reg .a)
  | bit_1_b => exact .bit 1 (.reg .b)
  | bit_1_c => exact .bit 1 (.reg .c)
  | bit_1_d => exact .bit 1 (.reg .d)
  | bit_1_e => exact .bit 1 (.reg .e)
  | bit_1_h => exact .bit 1 (.reg .h)
  | bit_1_l => exact .bit 1 (.reg .l)
  | bit_1_atHL => exact .bit 1 .atHL
  | bit_1_a => exact .bit 1 (.reg .a)
  | bit_2_b => exact .bit 2 (.reg .b)
  | bit_2_c => exact .bit 2 (.reg .c)
  | bit_2_d => exact .bit 2 (.reg .d)
  | bit_2_e => exact .bit 2 (.reg .e)
  | bit_2_h => exact .bit 2 (.reg .h)
  | bit_2_l => exact .bit 2 (.reg .l)
  | bit_2_atHL => exact .bit 2 .atHL
  | bit_2_a => exact .bit 2 (.reg .a)
  | bit_3_b => exact .bit 3 (.reg .b)
  | bit_3_c => exact .bit 3 (.reg .c)
  | bit_3_d => exact .bit 3 (.reg .d)
  | bit_3_e => exact .bit 3 (.reg .e)
  | bit_3_h => exact .bit 3 (.reg .h)
  | bit_3_l => exact .bit 3 (.reg .l)
  | bit_3_atHL => exact .bit 3 .atHL
  | bit_3_a => exact .bit 3 (.reg .a)
  | bit_4_b => exact .bit 4 (.reg .b)
  | bit_4_c => exact .bit 4 (.reg .c)
  | bit_4_d => exact .bit 4 (.reg .d)
  | bit_4_e => exact .bit 4 (.reg .e)
  | bit_4_h => exact .bit 4 (.reg .h)
  | bit_4_l => exact .bit 4 (.reg .l)
  | bit_4_atHL => exact .bit 4 .atHL
  | bit_4_a => exact .bit 4 (.reg .a)
  | bit_5_b => exact .bit 5 (.reg .b)
  | bit_5_c => exact .bit 5 (.reg .c)
  | bit_5_d => exact .bit 5 (.reg .d)
  | bit_5_e => exact .bit 5 (.reg .e)
  | bit_5_h => exact .bit 5 (.reg .h)
  | bit_5_l => exact .bit 5 (.reg .l)
  | bit_5_atHL => exact .bit 5 .atHL
  | bit_5_a => exact .bit 5 (.reg .a)
  | bit_6_b => exact .bit 6 (.reg .b)
  | bit_6_c => exact .bit 6 (.reg .c)
  | bit_6_d => exact .bit 6 (.reg .d)
  | bit_6_e => exact .bit 6 (.reg .e)
  | bit_6_h => exact .bit 6 (.reg .h)
  | bit_6_l => exact .bit 6 (.reg .l)
  | bit_6_atHL => exact .bit 6 .atHL
  | bit_6_a => exact .bit 6 (.reg .a)
  | bit_7_b => exact .bit 7 (.reg .b)
  | bit_7_c => exact .bit 7 (.reg .c)
  | bit_7_d => exact .bit 7 (.reg .d)
  | bit_7_e => exact .bit 7 (.reg .e)
  | bit_7_h => exact .bit 7 (.reg .h)
  | bit_7_l => exact .bit 7 (.reg .l)
  | bit_7_atHL => exact .bit 7 .atHL
  | bit_7_a => exact .bit 7 (.reg .a)
  | res_0_b => exact .res 0 (.reg .b)
  | res_0_c => exact .res 0 (.reg .c)
  | res_0_d => exact .res 0 (.reg .d)
  | res_0_e => exact .res 0 (.reg .e)
  | res_0_h => exact .res 0 (.reg .h)
  | res_0_l => exact .res 0 (.reg .l)
  | res_0_atHL => exact .res 0 .atHL
  | res_0_a => exact .res 0 (.reg .a)
  | res_1_b => exact .res 1 (.reg .b)
  | res_1_c => exact .res 1 (.reg .c)
  | res_1_d => exact .res 1 (.reg .d)
  | res_1_e => exact .res 1 (.reg .e)
  | res_1_h => exact .res 1 (.reg .h)
  | res_1_l => exact .res 1 (.reg .l)
  | res_1_atHL => exact .res 1 .atHL
  | res_1_a => exact .res 1 (.reg .a)
  | res_2_b => exact .res 2 (.reg .b)
  | res_2_c => exact .res 2 (.reg .c)
  | res_2_d => exact .res 2 (.reg .d)
  | res_2_e => exact .res 2 (.reg .e)
  | res_2_h => exact .res 2 (.reg .h)
  | res_2_l => exact .res 2 (.reg .l)
  | res_2_atHL => exact .res 2 .atHL
  | res_2_a => exact .res 2 (.reg .a)
  | res_3_b => exact .res 3 (.reg .b)
  | res_3_c => exact .res 3 (.reg .c)
  | res_3_d => exact .res 3 (.reg .d)
  | res_3_e => exact .res 3 (.reg .e)
  | res_3_h => exact .res 3 (.reg .h)
  | res_3_l => exact .res 3 (.reg .l)
  | res_3_atHL => exact .res 3 .atHL
  | res_3_a => exact .res 3 (.reg .a)
  | res_4_b => exact .res 4 (.reg .b)
  | res_4_c => exact .res 4 (.reg .c)
  | res_4_d => exact .res 4 (.reg .d)
  | res_4_e => exact .res 4 (.reg .e)
  | res_4_h => exact .res 4 (.reg .h)
  | res_4_l => exact .res 4 (.reg .l)
  | res_4_atHL => exact .res 4 .atHL
  | res_4_a => exact .res 4 (.reg .a)
  | res_5_b => exact .res 5 (.reg .b)
  | res_5_c => exact .res 5 (.reg .c)
  | res_5_d => exact .res 5 (.reg .d)
  | res_5_e => exact .res 5 (.reg .e)
  | res_5_h => exact .res 5 (.reg .h)
  | res_5_l => exact .res 5 (.reg .l)
  | res_5_atHL => exact .res 5 .atHL
  | res_5_a => exact .res 5 (.reg .a)
  | res_6_b => exact .res 6 (.reg .b)
  | res_6_c => exact .res 6 (.reg .c)
  | res_6_d => exact .res 6 (.reg .d)
  | res_6_e => exact .res 6 (.reg .e)
  | res_6_h => exact .res 6 (.reg .h)
  | res_6_l => exact .res 6 (.reg .l)
  | res_6_atHL => exact .res 6 .atHL
  | res_6_a => exact .res 6 (.reg .a)
  | res_7_b => exact .res 7 (.reg .b)
  | res_7_c => exact .res 7 (.reg .c)
  | res_7_d => exact .res 7 (.reg .d)
  | res_7_e => exact .res 7 (.reg .e)
  | res_7_h => exact .res 7 (.reg .h)
  | res_7_l => exact .res 7 (.reg .l)
  | res_7_atHL => exact .res 7 .atHL
  | res_7_a => exact .res 7 (.reg .a)
  | set_0_b => exact .set 0 (.reg .b)
  | set_0_c => exact .set 0 (.reg .c)
  | set_0_d => exact .set 0 (.reg .d)
  | set_0_e => exact .set 0 (.reg .e)
  | set_0_h => exact .set 0 (.reg .h)
  | set_0_l => exact .set 0 (.reg .l)
  | set_0_atHL => exact .set 0 .atHL
  | set_0_a => exact .set 0 (.reg .a)
  | set_1_b => exact .set 1 (.reg .b)
  | set_1_c => exact .set 1 (.reg .c)
  | set_1_d => exact .set 1 (.reg .d)
  | set_1_e => exact .set 1 (.reg .e)
  | set_1_h => exact .set 1 (.reg .h)
  | set_1_l => exact .set 1 (.reg .l)
  | set_1_atHL => exact .set 1 .atHL
  | set_1_a => exact .set 1 (.reg .a)
  | set_2_b => exact .set 2 (.reg .b)
  | set_2_c => exact .set 2 (.reg .c)
  | set_2_d => exact .set 2 (.reg .d)
  | set_2_e => exact .set 2 (.reg .e)
  | set_2_h => exact .set 2 (.reg .h)
  | set_2_l => exact .set 2 (.reg .l)
  | set_2_atHL => exact .set 2 .atHL
  | set_2_a => exact .set 2 (.reg .a)
  | set_3_b => exact .set 3 (.reg .b)
  | set_3_c => exact .set 3 (.reg .c)
  | set_3_d => exact .set 3 (.reg .d)
  | set_3_e => exact .set 3 (.reg .e)
  | set_3_h => exact .set 3 (.reg .h)
  | set_3_l => exact .set 3 (.reg .l)
  | set_3_atHL => exact .set 3 .atHL
  | set_3_a => exact .set 3 (.reg .a)
  | set_4_b => exact .set 4 (.reg .b)
  | set_4_c => exact .set 4 (.reg .c)
  | set_4_d => exact .set 4 (.reg .d)
  | set_4_e => exact .set 4 (.reg .e)
  | set_4_h => exact .set 4 (.reg .h)
  | set_4_l => exact .set 4 (.reg .l)
  | set_4_atHL => exact .set 4 .atHL
  | set_4_a => exact .set 4 (.reg .a)
  | set_5_b => exact .set 5 (.reg .b)
  | set_5_c => exact .set 5 (.reg .c)
  | set_5_d => exact .set 5 (.reg .d)
  | set_5_e => exact .set 5 (.reg .e)
  | set_5_h => exact .set 5 (.reg .h)
  | set_5_l => exact .set 5 (.reg .l)
  | set_5_atHL => exact .set 5 .atHL
  | set_5_a => exact .set 5 (.reg .a)
  | set_6_b => exact .set 6 (.reg .b)
  | set_6_c => exact .set 6 (.reg .c)
  | set_6_d => exact .set 6 (.reg .d)
  | set_6_e => exact .set 6 (.reg .e)
  | set_6_h => exact .set 6 (.reg .h)
  | set_6_l => exact .set 6 (.reg .l)
  | set_6_atHL => exact .set 6 .atHL
  | set_6_a => exact .set 6 (.reg .a)
  | set_7_b => exact .set 7 (.reg .b)
  | set_7_c => exact .set 7 (.reg .c)
  | set_7_d => exact .set 7 (.reg .d)
  | set_7_e => exact .set 7 (.reg .e)
  | set_7_h => exact .set 7 (.reg .h)
  | set_7_l => exact .set 7 (.reg .l)
  | set_7_atHL => exact .set 7 .atHL
  | set_7_a => exact .set 7 (.reg .a)

/-! ## `exec` of each row -/

theorem exec_jrCond (cc : Cond) (n : Byte) (s : State) : exec (rowJrCond cc n) s = opJrCond cc n s := by cases cc <;> rfl

theorem exec_jpCond (cc : Cond) (a : Word) (s : State) : exec (rowJpCond cc a) s = opJpCond cc a s := by cases cc <;> rfl

theorem exec_callCond (cc : Cond) (a : Word) (s : State) : exec (rowCallCond cc a) s = opCallCond cc a s := by
  cases cc <;> rfl

theorem exec_retCond (cc : Cond) (s : State) : exec (rowRetCond cc) s = opRetCond cc s := by cases cc <;> rfl

theorem exec_rst (s : State) : ∀ y : Fin 8, exec (rowRst y) s = opRst y s := fun y =>
  match y with
  | 0 => rfl
  | 1 => rfl
  | 2 => rfl
  | 3 => rfl
  | 4 => rfl
  | 5 => rfl
  | 6 => rfl
  | 7 => rfl

theorem exec_ld {dst src : Operand8} (h : dst = .atHL → src ≠ .atHL) (s : State) :
    exec (rowLd8 dst src) s = opLd dst src s := by
  rcases dst with (_ | _ | _ | _ | _ | _ | _) | _ <;> rcases src with (_ | _ | _ | _ | _ | _ | _) | _ <;>
    first | rfl | exact absurd rfl (h rfl)

theorem exec_ldImm (dst : Operand8) (n : Byte) (s : State) : exec (rowLdImm8 dst n) s = opLdImm dst n s := by
  rcases dst with (_ | _ | _ | _ | _ | _ | _) | _ <;> rfl

theorem exec_storeIndirect (k : IndirectA) (s : State) : exec (rowStoreA k) s = opStoreIndirect k s := by cases k <;> rfl

theorem exec_loadIndirect (k : IndirectA) (s : State) : exec (rowLoadA k) s = opLoadIndirect k s := by cases k <;> rfl

theorem exec_ldImm16 (r : R16) (v : Word) (s : State) : exec (rowLdImm16 r v) s = .next ((s.set16 r v).took 3) := by
  cases r <;> rfl

theorem exec_push (r : R16Stk) (s : State) : exec (rowPush r) s = opPush r s := by cases r <;> rfl

theorem exec_pop (r : R16Stk) (s : State) : exec (rowPop r) s = opPop r s := by cases r <;> rfl

theorem exec_inc8 (o : Operand8) (s : State) : exec (rowInc8 o) s = opInc o s := by
  rcases o with (_ | _ | _ | _ | _ | _ | _) | _ <;> rfl

theorem exec_dec8 (o : Operand8) (s : State) : exec (rowDec8 o) s = opDec o s := by
  rcases o with (_ | _ | _ | _ | _ | _ | _) | _ <;> rfl

theorem exec_inc16 (r : R16) (s : State) : exec (rowInc16 r) s = .next ((s.set16 r (s.regs.get16 r + 1)).took 2) := by
  cases r <;> rfl

theorem exec_dec16 (r : R16) (s : State) : exec (rowDec16 r) s = .next ((s.set16 r (s.regs.get16 r - 1)).took 2) := by
  cases r <;> rfl

theorem exec_alu (op : AluOp) (o : Operand8) (s : State) : exec (rowAlu op o) s = opAlu op o s := by
  rcases o with (_ | _ | _ | _ | _ | _ | _) | _ <;> cases op <;> rfl

theorem exec_aluImm (op : AluOp) (n : Byte) (s : State) : exec (rowAluImm op n) s = opAluImm op n s := by
  cases op <;> rfl

theorem exec_addHL (r : R16) (s : State) : exec (rowAddHL r) s = opAddHL r s := by cases r <;> rfl

theorem exec_rot (op : RotOp) (o : Operand8) (s : State) : exec (rowRot op o) s = opRot op o s := by
  rcases o with (_ | _ | _ | _ | _ | _ | _) | _ <;> cases op <;> rfl

theorem exec_bit (o : Operand8) (s : State) : ∀ b : Fin 8, exec (rowBit b o) s = opBit b o s := fun b => by
  rcases o with (_ | _ | _ | _ | _ | _ | _) | _ <;>
    exact match b with
    | 0 => rfl
    | 1 => rfl
    | 2 => rfl
    | 3 => rfl
    | 4 => rfl
    | 5 => rfl
    | 6 => rfl
    | 7 => rfl

theorem exec_res (o : Operand8) (s : State) : ∀ b : Fin 8, exec (rowRes b o) s = opRes b o s := fun b => by
  rcases o with (_ | _ | _ | _ | _ | _ | _) | _ <;>
    exact match b with
    | 0 => rfl
    | 1 => rfl
    | 2 => rfl
    | 3 => rfl
    | 4 => rfl
    | 5 => rfl
    | 6 => rfl
    | 7 => rfl

theorem exec_set (o : Operand8) (s : State) : ∀ b : Fin 8, exec (rowSet b o) s = opSet b o s := fun b => by
  rcases o with (_ | _ | _ | _ | _ | _ | _) | _ <;>
    exact match b with
    | 0 => rfl
    | 1 => rfl
    | 2 => rfl
    | 3 => rfl
    | 4 => rfl
    | 5 => rfl
    | 6 => rfl
    | 7 => rfl

/-- R121: the absent bytes are the eleven. -/
theorem isAbsent_cases {op : Byte} (h : isAbsent op = true) :
    op = 0xD3 ∨ op = 0xDB ∨ op = 0xDD ∨ op = 0xE3 ∨ op = 0xE4 ∨ op = 0xEB ∨ op = 0xEC ∨ op = 0xED ∨ op = 0xF4 ∨
    op = 0xFC ∨ op = 0xFD := by
  simpa [isAbsent, absentBytes] using h

theorem exec_absent {op : Byte} (h : isAbsent op = true) (s : State) : exec (decodeBase op 0 0) s = opIllegal op s := by
  rcases isAbsent_cases h with rfl | rfl | rfl | rfl | rfl | rfl | rfl | rfl | rfl | rfl | rfl <;> rfl

/-- The prefix row is the extended instruction of the byte it fetches. -/
theorem opExtended_eq_exec (s : State) (op : Byte) : opExtended op s = exec (decodeExt op) s := by
  unfold opExtended decodeExt
  match fieldX op with
  | 0 => exact (exec_rot _ _ s).symm
  | 1 => exact (exec_bit _ s _).symm
  | 2 => exact (exec_res _ s _).symm
  | _ + 3 => exact (exec_set _ s _).symm

end Sys2Proof.Machine
end

