-- ==== Sys2Proof/Laws/Meanings.lean ====
section
/-! SUPPORT. What each family's shared operation can do when it answers a next state (one inversion lemma each), and from
them, once for all instructions: `exec` changes CPU fields and stores bytes where a store does not fault
(`exec_reach`), only HALT sets the HALT bug (`exec_haltBug`), and only DI, EI and RETI touch IME and `ei_pending`
(`exec_interruptEnable`). -/

namespace Sys2Proof.Machine

/-! ## One inversion lemma per shared operation -/

theorem opLd_eq_next {dst src : Operand8} {s t : State} (h : opLd dst src s = .next t) :
    s.canReadOperand src = true ∧ (s.afterOperand src).canWriteOperand dst = true ∧
    t = ((s.afterOperand src).setOperand dst (s.operand src)).took (max (cyclesBy dst 1 2) (cyclesBy src 1 2)) := by
  obtain ⟨⟨v, s1⟩, h1, h2⟩ := andThen_eq_next h
  obtain ⟨hr, rfl, rfl⟩ := readOperand_eq_next h1
  obtain ⟨s2, h3, h4⟩ := andThen_eq_next h2
  obtain ⟨hw, rfl⟩ := writeOperand_eq_next h3
  cases h4
  exact ⟨hr, hw, rfl⟩

theorem opLdImm_eq_next {dst : Operand8} {n : Byte} {s t : State} (h : opLdImm dst n s = .next t) :
    s.canWriteOperand dst = true ∧ t = (s.setOperand dst n).took (cyclesBy dst 2 3) := by
  obtain ⟨s1, h1, h2⟩ := andThen_eq_next h
  obtain ⟨hw, rfl⟩ := writeOperand_eq_next h1
  cases h2
  exact ⟨hw, rfl⟩

theorem opStoreA_eq_next {a : Word} {n : Nat} {s t : State} (h : opStoreA a n s = .next t) :
    s.canWrite a = true ∧ t = (s.poke a s.regs.a).took n := by
  obtain ⟨s1, h1, h2⟩ := andThen_eq_next h
  obtain ⟨hw, rfl⟩ := memWrite_eq_next h1
  cases h2
  exact ⟨hw, rfl⟩

theorem opLoadA_eq_next {a : Word} {n : Nat} {s t : State} (h : opLoadA a n s = .next t) :
    s.canRead a = true ∧ t = ((s.afterRead a).setA (s.peek a)).took n := by
  obtain ⟨⟨v, s1⟩, h1, h2⟩ := andThen_eq_next h
  obtain ⟨hr, rfl, rfl⟩ := memRead_eq_next h1
  cases h2
  exact ⟨hr, rfl⟩

theorem opStoreIndirect_eq_next {k : IndirectA} {s t : State} (h : opStoreIndirect k s = .next t) :
    s.canWrite (indirectAddr k s.regs) = true ∧
    t = (indirectStep k (s.poke (indirectAddr k s.regs) s.regs.a)).took 2 := by
  obtain ⟨s1, h1, h2⟩ := andThen_eq_next h
  obtain ⟨hw, rfl⟩ := memWrite_eq_next h1
  cases h2
  exact ⟨hw, rfl⟩

theorem opLoadIndirect_eq_next {k : IndirectA} {s t : State} (h : opLoadIndirect k s = .next t) :
    s.canRead (indirectAddr k s.regs) = true ∧
    t = (indirectStep k ((s.afterRead (indirectAddr k s.regs)).setA (s.peek (indirectAddr k s.regs)))).took 2 := by
  obtain ⟨⟨v, s1⟩, h1, h2⟩ := andThen_eq_next h
  obtain ⟨hr, rfl, rfl⟩ := memRead_eq_next h1
  cases h2
  exact ⟨hr, rfl⟩

theorem opCall_eq_next {a : Word} {n : Nat} {s t : State} (h : opCall a n s = .next t) :
    s.canPush = true ∧ t = ((s.pushed s.pc).setPC a).took n := by
  obtain ⟨s1, h1, h2⟩ := andThen_eq_next h
  obtain ⟨hp, rfl⟩ := push16_eq_next h1
  cases h2
  exact ⟨hp, rfl⟩

theorem opRet_eq_next {n : Nat} {s t : State} (h : opRet n s = .next t) :
    s.canPop = true ∧ t = (s.popped.setPC s.popWord).took n := by
  obtain ⟨⟨v, s1⟩, h1, h2⟩ := andThen_eq_next h
  obtain ⟨hp, rfl, rfl⟩ := pop16_eq_next h1
  cases h2
  exact ⟨hp, rfl⟩

theorem opReti_eq_next {s t : State} (h : opReti s = .next t) :
    s.canPop = true ∧ t = State.took 4 { s.popped.setPC s.popWord with ime := true, eiPending := false } := by
  obtain ⟨s1, h1, h2⟩ := andThen_eq_next h
  obtain ⟨⟨v, s3⟩, h3, h4⟩ := andThen_eq_next h1
  obtain ⟨hp, rfl, rfl⟩ := pop16_eq_next h3
  cases h4
  cases h2
  exact ⟨hp, rfl⟩

theorem opPush_eq_next {r : R16Stk} {s t : State} (h : opPush r s = .next t) :
    s.canPush = true ∧ t = (s.pushed (s.regs.getStk r)).took 4 := by
  obtain ⟨s1, h1, h2⟩ := andThen_eq_next h
  obtain ⟨hp, rfl⟩ := push16_eq_next h1
  cases h2
  exact ⟨hp, rfl⟩

theorem opPop_eq_next {r : R16Stk} {s t : State} (h : opPop r s = .next t) :
    s.canPop = true ∧ t = (s.popped.setStk r s.popWord).took 3 := by
  obtain ⟨⟨v, s1⟩, h1, h2⟩ := andThen_eq_next h
  obtain ⟨hp, rfl, rfl⟩ := pop16_eq_next h1
  cases h2
  exact ⟨hp, rfl⟩

/-- The shape of the read-modify-write operations: an operand read, written back, then CPU fields. -/
theorem modify_eq_next {o : Operand8} {f : Byte → State → Byte} {g : Byte → State → State → State} {s t : State}
    (h : (andThen (readOperand o s) fun (v, s1) => andThen (writeOperand o (f v s1) s1) fun s2 => .next (g v s1 s2)) =
      (.next t : Res State)) :
    s.canWriteOperand o = true ∧
    t = g (s.operand o) (s.afterOperand o) ((s.afterOperand o).setOperand o (f (s.operand o) (s.afterOperand o))) := by
  obtain ⟨⟨v, s1⟩, h1, h2⟩ := andThen_eq_next h
  obtain ⟨hr, rfl, rfl⟩ := readOperand_eq_next h1
  obtain ⟨s2, h3, h4⟩ := andThen_eq_next h2
  obtain ⟨hw, rfl⟩ := writeOperand_eq_next h3
  cases h4
  exact ⟨by rwa [State.canWriteOperand_afterOperand] at hw, rfl⟩

theorem opInc_eq_next {o : Operand8} {s t : State} (h : opInc o s = .next t) :
    s.canWriteOperand o = true ∧
    t = (((s.afterOperand o).setOperand o (s.operand o + 1)).setF
      (incFlags (s.operand o) ((s.afterOperand o).setOperand o (s.operand o + 1)).regs.f)).took (cyclesBy o 1 3) :=
  modify_eq_next (f := fun v _ => v + 1) (g := fun v _ s2 => (s2.setF (incFlags v s2.regs.f)).took (cyclesBy o 1 3)) h

theorem opDec_eq_next {o : Operand8} {s t : State} (h : opDec o s = .next t) :
    s.canWriteOperand o = true ∧
    t = (((s.afterOperand o).setOperand o (s.operand o - 1)).setF
      (decFlags (s.operand o) ((s.afterOperand o).setOperand o (s.operand o - 1)).regs.f)).took (cyclesBy o 1 3) :=
  modify_eq_next (f := fun v _ => v - 1) (g := fun v _ s2 => (s2.setF (decFlags v s2.regs.f)).took (cyclesBy o 1 3)) h

theorem opRot_eq_next {op : RotOp} {o : Operand8} {s t : State} (h : opRot op o s = .next t) :
    s.canWriteOperand o = true ∧
    t = (((s.afterOperand o).setOperand o (rot op (s.operand o) s.regs.f.c).1).setF
      (rotFlags (rot op (s.operand o) s.regs.f.c).1 (rot op (s.operand o) s.regs.f.c).2)).took (cyclesBy o 2 4) := by
  have := modify_eq_next (f := fun v s1 => (rot op v s1.regs.f.c).1)
    (g := fun v s1 s2 =>
      (s2.setF (rotFlags (rot op v s1.regs.f.c).1 (rot op v s1.regs.f.c).2)).took (cyclesBy o 2 4)) h
  simpa only [State.afterOperand_regs] using this

theorem opRes_eq_next {b : Fin 8} {o : Operand8} {s t : State} (h : opRes b o s = .next t) :
    s.canWriteOperand o = true ∧
    t = ((s.afterOperand o).setOperand o (resBit b (s.operand o))).took (cyclesBy o 2 4) :=
  modify_eq_next (f := fun v _ => resBit b v) (g := fun _ _ s2 => s2.took (cyclesBy o 2 4)) h

theorem opSet_eq_next {b : Fin 8} {o : Operand8} {s t : State} (h : opSet b o s = .next t) :
    s.canWriteOperand o = true ∧
    t = ((s.afterOperand o).setOperand o (setBit b (s.operand o))).took (cyclesBy o 2 4) :=
  modify_eq_next (f := fun v _ => setBit b v) (g := fun _ _ s2 => s2.took (cyclesBy o 2 4)) h

theorem opBit_eq_next {b : Fin 8} {o : Operand8} {s t : State} (h : opBit b o s = .next t) :
    s.canReadOperand o = true ∧
    t = ((s.afterOperand o).setF (bitFlags b (s.operand o) s.regs.f)).took (cyclesBy o 2 3) := by
  obtain ⟨⟨v, s1⟩, h1, h2⟩ := andThen_eq_next h
  obtain ⟨hr, rfl, rfl⟩ := readOperand_eq_next h1
  cases h2
  exact ⟨hr, by simp only [State.afterOperand_regs]⟩

theorem opAlu_eq_next {op : AluOp} {o : Operand8} {s t : State} (h : opAlu op o s = .next t) :
    s.canReadOperand o = true ∧ t = (aluApply op (s.operand o) (s.afterOperand o)).took (cyclesBy o 1 2) := by
  obtain ⟨⟨v, s1⟩, h1, h2⟩ := andThen_eq_next h
  obtain ⟨hr, rfl, rfl⟩ := readOperand_eq_next h1
  cases h2
  exact ⟨hr, rfl⟩

theorem opHalt_eq_next {s t : State} (h : opHalt s = .next t) :
    (s.pending = 0 ∧ t = State.took 1 { s with runState := .halted }) ∨
    (s.pending ≠ 0 ∧ s.ime = true ∧ t = s.took 1) ∨
    (s.pending ≠ 0 ∧ s.ime = false ∧ s.eiPending = false ∧ t = State.took 1 { s with haltBug := true }) := by
  unfold opHalt at h
  split at h
  · next hp => cases h; exact .inl ⟨hp, rfl⟩
  · next hp =>
    split at h
    · next hi => cases h; exact .inr (.inl ⟨hp, hi, rfl⟩)
    · next hi =>
      split at h
      · exact absurd h raise_ne_next
      · next he => cases h; exact .inr (.inr ⟨hp, by simpa using hi, by simpa using he, rfl⟩)

/-! ## What `exec` can do -/

/-- CPU fields set and bytes stored, one after the other. -/
inductive Reach (s : State) : State → Prop where
  | refl : Reach s s
  | cpu {t : State} (h : Reach s t) (regs : Regs) (pc : Word) (ime ei : Bool) (rs : RunState) (hb : Bool)
      (draws cycles : Nat) (opAddr : Word) :
      Reach s { t with regs := regs, pc := pc, ime := ime, eiPending := ei, runState := rs, haltBug := hb,
                       draws := draws, stepCycles := cycles, opAddr := opAddr }
  | store {t : State} (h : Reach s t) (a : Word) (v : Byte) (hw : t.canWrite a = true) : Reach s (t.poke a v)

theorem Reach.regs {s t : State} (h : Reach s t) (r : Regs) : Reach s { t with regs := r } :=
  h.cpu r t.pc t.ime t.eiPending t.runState t.haltBug t.draws t.stepCycles t.opAddr

theorem Reach.took {s t : State} (h : Reach s t) (n : Nat) : Reach s (t.took n) :=
  h.cpu t.regs t.pc t.ime t.eiPending t.runState t.haltBug t.draws n t.opAddr

theorem Reach.setPC {s t : State} (h : Reach s t) (v : Word) : Reach s (t.setPC v) :=
  h.cpu t.regs v t.ime t.eiPending t.runState t.haltBug t.draws t.stepCycles t.opAddr

theorem Reach.afterRead {s t : State} (h : Reach s t) (a : Word) : Reach s (t.afterRead a) := by
  unfold State.afterRead
  split
  · exact h.cpu t.regs t.pc t.ime t.eiPending t.runState t.haltBug (t.draws + 1) t.stepCycles t.opAddr
  · exact h

theorem Reach.afterOperand {s t : State} (h : Reach s t) (o : Operand8) : Reach s (t.afterOperand o) := by
  cases o with
  | reg r => exact h
  | atHL => exact h.afterRead _

theorem Reach.setOperand {s t : State} (h : Reach s t) {o : Operand8} (v : Byte) (hw : t.canWriteOperand o = true) :
    Reach s (t.setOperand o v) := by
  cases o with
  | reg r => exact h.regs _
  | atHL => exact h.store _ v hw

theorem Reach.pushed {s t : State} (h : Reach s t) (v : Word) (hp : t.canPush = true) : Reach s (t.pushed v) := by
  simp only [State.canPush, Bool.and_eq_true] at hp
  exact ((h.store _ _ hp.1).store _ _ (by simpa using hp.2)).regs _

theorem Reach.popped {s t : State} (h : Reach s t) : Reach s t.popped := ((h.afterRead _).afterRead _).regs _

theorem Reach.trans {s t u : State} (h : Reach s t) (h' : Reach t u) : Reach s u := by
  induction h' with
  | refl => exact h
  | cpu _ r pc i e rs hb d c o ih => exact ih.cpu r pc i e rs hb d c o
  | store _ a v hw ih => exact ih.store a v hw

theorem Reach.indirectStep {s t : State} (h : Reach s t) (k : IndirectA) : Reach s (indirectStep k t) := by
  cases k
  · exact h
  · exact h
  · exact h.regs _
  · exact h.regs _

theorem opRot_reach {op : RotOp} {o : Operand8} {s t : State} (h : opRot op o s = .next t) : Reach s t := by
  obtain ⟨hw, rfl⟩ := opRot_eq_next h
  exact (((Reach.refl.afterOperand o).setOperand _ (by rwa [State.canWriteOperand_afterOperand])).regs _).took _

theorem opBit_reach {b : Fin 8} {o : Operand8} {s t : State} (h : opBit b o s = .next t) : Reach s t := by
  obtain ⟨_, rfl⟩ := opBit_eq_next h
  exact ((Reach.refl.afterOperand o).regs _).took _

theorem opRes_reach {b : Fin 8} {o : Operand8} {s t : State} (h : opRes b o s = .next t) : Reach s t := by
  obtain ⟨hw, rfl⟩ := opRes_eq_next h
  exact ((Reach.refl.afterOperand o).setOperand _ (by rwa [State.canWriteOperand_afterOperand])).took _

theorem opSet_reach {b : Fin 8} {o : Operand8} {s t : State} (h : opSet b o s = .next t) : Reach s t := by
  obtain ⟨hw, rfl⟩ := opSet_eq_next h
  exact ((Reach.refl.afterOperand o).setOperand _ (by rwa [State.canWriteOperand_afterOperand])).took _

theorem opExtended_reach {op : Byte} {s t : State} (h : opExtended op s = .next t) : Reach s t := by
  unfold opExtended at h
  split at h
  · exact opRot_reach h
  · exact opBit_reach h
  · exact opRes_reach h
  · exact opSet_reach h

theorem opCall_reach {a : Word} {n : Nat} {s t : State} (h : opCall a n s = .next t) : Reach s t := by
  obtain ⟨hp, rfl⟩ := opCall_eq_next h
  exact ((Reach.refl.pushed _ hp).setPC _).took _

theorem opRet_reach {n : Nat} {s t : State} (h : opRet n s = .next t) : Reach s t := by
  obtain ⟨_, rfl⟩ := opRet_eq_next h
  exact (Reach.refl.popped.setPC _).took _

/-- R102 and R401: an instruction that answers a next state has changed CPU fields and stored bytes, and nothing else:
not the ROM images, the parameters, the breakpoint, `break_hit`, the fault record, the scanline controller. -/
theorem exec_reach {i : Instr} {s t : State} (h : exec i s = .next t) : Reach s t := by
  cases shape_of i with
  | nop => cases h; exact Reach.refl.took 1
  | stop n => cases h; exact Reach.refl.cpu ..
  | halt =>
    rcases opHalt_eq_next h with ⟨_, rfl⟩ | ⟨_, _, rfl⟩ | ⟨_, _, _, rfl⟩
    · exact Reach.refl.cpu ..
    · exact Reach.refl.took 1
    · exact Reach.refl.cpu ..
  | di => cases h; exact Reach.refl.cpu ..
  | ei => cases h; exact Reach.refl.cpu ..
  | jr n => cases h; exact (Reach.refl.setPC _).took _
  | jrCond cc n =>
    rw [exec_jrCond, opJrCond] at h
    split at h <;> cases h
    · exact (Reach.refl.setPC _).took _
    · exact Reach.refl.took _
  | jp a => cases h; exact (Reach.refl.setPC _).took _
  | jpCond cc a =>
    rw [exec_jpCond, opJpCond] at h
    split at h <;> cases h
    · exact (Reach.refl.setPC _).took _
    · exact Reach.refl.took _
  | jpHL => cases h; exact (Reach.refl.setPC _).took _
  | call a => exact opCall_reach h
  | callCond cc a =>
    rw [exec_callCond, opCallCond] at h
    split at h
    · exact opCall_reach h
    · cases h; exact Reach.refl.took _
  | ret => exact opRet_reach h
  | retCond cc =>
    rw [exec_retCond, opRetCond] at h
    split at h
    · exact opRet_reach h
    · cases h; exact Reach.refl.took _
  | reti =>
    obtain ⟨_, rfl⟩ := opReti_eq_next h
    exact Reach.refl.popped.cpu ..
  | rst y => rw [exec_rst] at h; exact opCall_reach h
  | ld dst src hd =>
    rw [exec_ld hd] at h
    obtain ⟨_, hw, rfl⟩ := opLd_eq_next h
    exact ((Reach.refl.afterOperand src).setOperand _ hw).took _
  | ldImm dst n =>
    rw [exec_ldImm] at h
    obtain ⟨hw, rfl⟩ := opLdImm_eq_next h
    exact (Reach.refl.setOperand _ hw).took _
  | storeIndirect k =>
    rw [exec_storeIndirect] at h
    obtain ⟨hw, rfl⟩ := opStoreIndirect_eq_next h
    exact ((Reach.refl.store _ _ hw).indirectStep k).took _
  | loadIndirect k =>
    rw [exec_loadIndirect] at h
    obtain ⟨_, rfl⟩ := opLoadIndirect_eq_next h
    exact (((Reach.refl.afterRead _).regs _).indirectStep k).took _
  | ldImm16 r v => rw [exec_ldImm16] at h; cases h; exact (Reach.refl.regs _).took _
  | storeSP a =>
    obtain ⟨s1, h1, h2⟩ := andThen_eq_next h
    obtain ⟨hw1, hw2, rfl⟩ := memWrite16_eq_next h1
    cases h2
    exact ((Reach.refl.store _ _ hw1).store _ _ (by simpa using hw2)).took _
  | ldSPHL => cases h; exact (Reach.refl.regs _).took _
  | ldHLSP n => cases h; exact (Reach.refl.regs _).took _
  | storeAbs a => obtain ⟨hw, rfl⟩ := opStoreA_eq_next h; exact (Reach.refl.store _ _ hw).took _
  | loadAbs a => obtain ⟨_, rfl⟩ := opLoadA_eq_next h; exact ((Reach.refl.afterRead _).regs _).took _
  | ldhStore n => obtain ⟨hw, rfl⟩ := opStoreA_eq_next h; exact (Reach.refl.store _ _ hw).took _
  | ldhLoad n => obtain ⟨_, rfl⟩ := opLoadA_eq_next h; exact ((Reach.refl.afterRead _).regs _).took _
  | storeC => obtain ⟨hw, rfl⟩ := opStoreA_eq_next h; exact (Reach.refl.store _ _ hw).took _
  | loadC => obtain ⟨_, rfl⟩ := opLoadA_eq_next h; exact ((Reach.refl.afterRead _).regs _).took _
  | push r =>
    rw [exec_push] at h
    obtain ⟨hp, rfl⟩ := opPush_eq_next h
    exact (Reach.refl.pushed _ hp).took _
  | pop r =>
    rw [exec_pop] at h
    obtain ⟨_, rfl⟩ := opPop_eq_next h
    exact (Reach.refl.popped.regs _).took _
  | inc8 o =>
    rw [exec_inc8] at h
    obtain ⟨hw, rfl⟩ := opInc_eq_next h
    exact (((Reach.refl.afterOperand o).setOperand _ (by rwa [State.canWriteOperand_afterOperand])).regs _).took _
  | dec8 o =>
    rw [exec_dec8] at h
    obtain ⟨hw, rfl⟩ := opDec_eq_next h
    exact (((Reach.refl.afterOperand o).setOperand _ (by rwa [State.canWriteOperand_afterOperand])).regs _).took _
  | inc16 r => rw [exec_inc16] at h; cases h; exact (Reach.refl.regs _).took _
  | dec16 r => rw [exec_dec16] at h; cases h; exact (Reach.refl.regs _).took _
  | alu op o =>
    rw [exec_alu] at h
    obtain ⟨_, rfl⟩ := opAlu_eq_next h
    exact ((Reach.refl.afterOperand o).regs _).took _
  | aluImm op n => rw [exec_aluImm] at h; cases h; exact (Reach.refl.regs _).took _
  | addHL r => rw [exec_addHL] at h; cases h; exact (Reach.refl.regs _).took _
  | addSP n => cases h; exact (Reach.refl.regs _).took _
  | rlca => cases h; exact (Reach.refl.regs _).took _
  | rrca => cases h; exact (Reach.refl.regs _).took _
  | rla => cases h; exact (Reach.refl.regs _).took _
  | rra => cases h; exact (Reach.refl.regs _).took _
  | daa => cases h; exact (Reach.refl.regs _).took _
  | cpl => cases h; exact (Reach.refl.regs _).took _
  | scf => cases h; exact (Reach.refl.regs _).took _
  | ccf => cases h; exact (Reach.refl.regs _).took _
  | rot op o => rw [exec_rot] at h; exact opRot_reach h
  | bit b o => rw [exec_bit] at h; exact opBit_reach h
  | res b o => rw [exec_res] at h; exact opRes_reach h
  | set b o => rw [exec_set] at h; exact opSet_reach h
  | prefixed =>
    obtain ⟨⟨op, s1⟩, h1, h2⟩ := andThen_eq_next h
    obtain ⟨_, rfl, rfl⟩ := fetch8_eq_next h1
    dsimp only at h2
    split at h2
    · exact absurd h2 raise_ne_next
    · exact ((Reach.refl.afterRead _).setPC _).trans (opExtended_reach h2)
  | absent op ha => rw [exec_absent ha] at h; exact absurd h raise_ne_next

/-! ## Who sets the HALT bug -/

@[simp] theorem State.afterOperand_haltBug (s : State) (o : Operand8) : (s.afterOperand o).haltBug = s.haltBug := by
  cases o <;> simp [State.afterOperand]

@[simp] theorem State.setOperand_haltBug (s : State) (o : Operand8) (v : Byte) :
    (s.setOperand o v).haltBug = s.haltBug := by
  cases o <;> simp [State.setOperand]

@[simp] theorem State.pushed_haltBug (s : State) (v : Word) : (s.pushed v).haltBug = s.haltBug := by
  simp [State.pushed]

@[simp] theorem State.popped_haltBug (s : State) : s.popped.haltBug = s.haltBug := by
  simp [State.popped, State.afterReads]

@[simp] theorem indirectStep_haltBug (k : IndirectA) (s : State) : (indirectStep k s).haltBug = s.haltBug := by
  cases k <;> rfl

@[simp] theorem State.afterOperand_ime (s : State) (o : Operand8) : (s.afterOperand o).ime = s.ime := by
  cases o <;> simp [State.afterOperand]

@[simp] theorem State.setOperand_ime (s : State) (o : Operand8) (v : Byte) :
    (s.setOperand o v).ime = s.ime := by
  cases o <;> simp [State.setOperand]

@[simp] theorem State.pushed_ime (s : State) (v : Word) : (s.pushed v).ime = s.ime := by
  simp [State.pushed]

@[simp] theorem State.popped_ime (s : State) : s.popped.ime = s.ime := by
  simp [State.popped, State.afterReads]

@[simp] theorem indirectStep_ime (k : IndirectA) (s : State) : (indirectStep k s).ime = s.ime := by
  cases k <;> rfl

@[simp] theorem State.afterOperand_eiPending (s : State) (o : Operand8) : (s.afterOperand o).eiPending = s.eiPending := by
  cases o <;> simp [State.afterOperand]

@[simp] theorem State.setOperand_eiPending (s : State) (o : Operand8) (v : Byte) :
    (s.setOperand o v).eiPending = s.eiPending := by
  cases o <;> simp [State.setOperand]

@[simp] theorem State.pushed_eiPending (s : State) (v : Word) : (s.pushed v).eiPending = s.eiPending := by
  simp [State.pushed]

@[simp] theorem State.popped_eiPending (s : State) : s.popped.eiPending = s.eiPending := by
  simp [State.popped, State.afterReads]

@[simp] theorem indirectStep_eiPending (k : IndirectA) (s : State) : (indirectStep k s).eiPending = s.eiPending := by
  cases k <;> rfl

@[simp] theorem aluApply_haltBug (op : AluOp) (v : Byte) (s : State) : (aluApply op v s).haltBug = s.haltBug := rfl

@[simp] theorem aluApply_ime (op : AluOp) (v : Byte) (s : State) : (aluApply op v s).ime = s.ime := rfl

@[simp] theorem aluApply_eiPending (op : AluOp) (v : Byte) (s : State) : (aluApply op v s).eiPending = s.eiPending := rfl

theorem opExtended_control {op : Byte} {s t : State} (h : opExtended op s = .next t) :
    t.ime = s.ime ∧ t.eiPending = s.eiPending ∧ t.haltBug = s.haltBug := by
  unfold opExtended at h
  split at h
  · obtain ⟨_, rfl⟩ := opRot_eq_next h; simp
  · obtain ⟨_, rfl⟩ := opBit_eq_next h; simp
  · obtain ⟨_, rfl⟩ := opRes_eq_next h; simp
  · obtain ⟨_, rfl⟩ := opSet_eq_next h; simp

/-- Only DI, EI, RETI and HALT can touch IME, `ei_pending` or the HALT bug. -/
theorem exec_control {i : Instr} {s t : State} (h : exec i s = .next t) :
    (t.ime = s.ime ∧ t.eiPending = s.eiPending ∧ t.haltBug = s.haltBug) ∨ i = .di ∨ i = .ei ∨ i = .reti ∨ i = .halt := by
  cases shape_of i with
  | nop => cases h; exact .inl (by simp)
  | stop n => cases h; exact .inl ⟨rfl, rfl, rfl⟩
  | halt => exact .inr (.inr (.inr (.inr rfl)))
  | di => exact .inr (.inl rfl)
  | ei => exact .inr (.inr (.inl rfl))
  | jr n => cases h; exact .inl (by simp)
  | jrCond cc n =>
    rw [exec_jrCond, opJrCond] at h
    split at h <;> cases h
    · exact .inl (by simp)
    · exact .inl (by simp)
  | jp a => cases h; exact .inl (by simp)
  | jpCond cc a =>
    rw [exec_jpCond, opJpCond] at h
    split at h <;> cases h
    · exact .inl (by simp)
    · exact .inl (by simp)
  | jpHL => cases h; exact .inl (by simp)
  | call a => obtain ⟨_, rfl⟩ := opCall_eq_next h; exact .inl (by simp)
  | callCond cc a =>
    rw [exec_callCond, opCallCond] at h
    split at h
    · obtain ⟨_, rfl⟩ := opCall_eq_next h; exact .inl (by simp)
    · cases h; exact .inl (by simp)
  | ret => obtain ⟨_, rfl⟩ := opRet_eq_next h; exact .inl (by simp)
  | retCond cc =>
    rw [exec_retCond, opRetCond] at h
    split at h
    · obtain ⟨_, rfl⟩ := opRet_eq_next h; exact .inl (by simp)
    · cases h; exact .inl (by simp)
  | reti => exact .inr (.inr (.inr (.inl rfl)))
  | rst y => rw [exec_rst] at h; obtain ⟨_, rfl⟩ := opCall_eq_next h; exact .inl (by simp)
  | ld dst src hd =>
    rw [exec_ld hd] at h
    obtain ⟨_, _, rfl⟩ := opLd_eq_next h
    exact .inl (by simp)
  | ldImm dst n =>
    rw [exec_ldImm] at h
    obtain ⟨_, rfl⟩ := opLdImm_eq_next h
    exact .inl (by simp)
  | storeIndirect k =>
    rw [exec_storeIndirect] at h
    obtain ⟨_, rfl⟩ := opStoreIndirect_eq_next h
    exact .inl (by simp)
  | loadIndirect k =>
    rw [exec_loadIndirect] at h
    obtain ⟨_, rfl⟩ := opLoadIndirect_eq_next h
    exact .inl (by simp)
  | ldImm16 r v => rw [exec_ldImm16] at h; cases h; exact .inl (by simp)
  | storeSP a =>
    obtain ⟨s1, h1, h2⟩ := andThen_eq_next h
    obtain ⟨_, _, rfl⟩ := memWrite16_eq_next h1
    cases h2
    exact .inl (by simp)
  | ldSPHL => cases h; exact .inl (by simp)
  | ldHLSP n => cases h; exact .inl (by simp)
  | storeAbs a => obtain ⟨_, rfl⟩ := opStoreA_eq_next h; exact .inl (by simp)
  | loadAbs a => obtain ⟨_, rfl⟩ := opLoadA_eq_next h; exact .inl (by simp)
  | ldhStore n => obtain ⟨_, rfl⟩ := opStoreA_eq_next h; exact .inl (by simp)
  | ldhLoad n => obtain ⟨_, rfl⟩ := opLoadA_eq_next h; exact .inl (by simp)
  | storeC => obtain ⟨_, rfl⟩ := opStoreA_eq_next h; exact .inl (by simp)
  | loadC => obtain ⟨_, rfl⟩ := opLoadA_eq_next h; exact .inl (by simp)
  | push r =>
    rw [exec_push] at h
    obtain ⟨_, rfl⟩ := opPush_eq_next h
    exact .inl (by simp)
  | pop r =>
    rw [exec_pop] at h
    obtain ⟨_, rfl⟩ := opPop_eq_next h
    exact .inl (by simp)
  | inc8 o =>
    rw [exec_inc8] at h
    obtain ⟨_, rfl⟩ := opInc_eq_next h
    exact .inl (by simp)
  | dec8 o =>
    rw [exec_dec8] at h
    obtain ⟨_, rfl⟩ := opDec_eq_next h
    exact .inl (by simp)
  | inc16 r => rw [exec_inc16] at h; cases h; exact .inl (by simp)
  | dec16 r => rw [exec_dec16] at h; cases h; exact .inl (by simp)
  | alu op o =>
    rw [exec_alu] at h
    obtain ⟨_, rfl⟩ := opAlu_eq_next h
    exact .inl (by simp)
  | aluImm op n => rw [exec_aluImm] at h; cases h; exact .inl (by simp)
  | addHL r => rw [exec_addHL] at h; cases h; exact .inl (by simp)
  | addSP n => cases h; exact .inl (by simp)
  | rlca => cases h; exact .inl (by simp)
  | rrca => cases h; exact .inl (by simp)
  | rla => cases h; exact .inl (by simp)
  | rra => cases h; exact .inl (by simp)
  | daa => cases h; exact .inl (by simp)
  | cpl => cases h; exact .inl (by simp)
  | scf => cases h; exact .inl (by simp)
  | ccf => cases h; exact .inl (by simp)
  | rot op o => rw [exec_rot] at h; obtain ⟨_, rfl⟩ := opRot_eq_next h; exact .inl (by simp)
  | bit b o => rw [exec_bit] at h; obtain ⟨_, rfl⟩ := opBit_eq_next h; exact .inl (by simp)
  | res b o => rw [exec_res] at h; obtain ⟨_, rfl⟩ := opRes_eq_next h; exact .inl (by simp)
  | set b o => rw [exec_set] at h; obtain ⟨_, rfl⟩ := opSet_eq_next h; exact .inl (by simp)
  | prefixed =>
    obtain ⟨⟨op, s1⟩, h1, h2⟩ := andThen_eq_next h
    obtain ⟨_, rfl, rfl⟩ := fetch8_eq_next h1
    dsimp only at h2
    split at h2
    · exact absurd h2 raise_ne_next
    · exact .inl (by simpa using opExtended_control h2)
  | absent op ha => rw [exec_absent ha] at h; exact absurd h raise_ne_next

/-- R202: an instruction leaves the HALT bug alone, or it is HALT with IME 0, no EI pending and a request pending. -/
theorem exec_haltBug {i : Instr} {s t : State} (h : exec i s = .next t) :
    t.haltBug = s.haltBug ∨
    (i = .halt ∧ t.haltBug = true ∧ t.runState = s.runState ∧ t.ime = false ∧ t.eiPending = false) := by
  rcases exec_control h with h' | rfl | rfl | rfl | rfl
  · exact .inl h'.2.2
  · cases h; exact .inl rfl
  · cases h; exact .inl rfl
  · obtain ⟨_, rfl⟩ := opReti_eq_next h; exact .inl (by simp)
  · rcases opHalt_eq_next h with ⟨_, rfl⟩ | ⟨_, _, rfl⟩ | ⟨_, hi, he, rfl⟩
    · exact .inl rfl
    · exact .inl rfl
    · exact .inr ⟨rfl, rfl, rfl, hi, he⟩

/-- R204, R205, R219: what an instruction does to IME and `ei_pending`; only DI, EI and RETI touch them. -/
theorem exec_interruptEnable {i : Instr} {s t : State} (h : exec i s = .next t) :
    (i = .di → t.ime = false ∧ t.eiPending = false) ∧ (i = .reti → t.ime = true ∧ t.eiPending = false) ∧
    (i = .ei → t.eiPending = true) ∧ (i ≠ .di → i ≠ .reti → t.ime = s.ime) ∧
    (i ≠ .di → i ≠ .reti → i ≠ .ei → t.eiPending = s.eiPending) := by
  refine ⟨?_, ?_, ?_, fun hd hr => ?_, fun hd hr he => ?_⟩
  · rintro rfl; cases h; exact ⟨rfl, rfl⟩
  · rintro rfl; obtain ⟨_, rfl⟩ := opReti_eq_next h; exact ⟨rfl, rfl⟩
  · rintro rfl; cases h; rfl
  · rcases exec_control h with h' | rfl | rfl | rfl | rfl
    · exact h'.1
    · exact absurd rfl hd
    · cases h; rfl
    · exact absurd rfl hr
    · rcases opHalt_eq_next h with ⟨_, rfl⟩ | ⟨_, _, rfl⟩ | ⟨_, _, _, rfl⟩ <;> rfl
  · rcases exec_control h with h' | rfl | rfl | rfl | rfl
    · exact h'.2.1
    · exact absurd rfl hd
    · exact absurd rfl he
    · exact absurd rfl hr
    · rcases opHalt_eq_next h with ⟨_, rfl⟩ | ⟨_, _, rfl⟩ | ⟨_, _, _, rfl⟩ <;> rfl

/-! ## What `Reach` keeps -/

theorem Reach.constants {s t : State} (h : Reach s t) :
    t.params = s.params ∧ t.bootRom = s.bootRom ∧ t.cartRom = s.cartRom ∧ t.breakpoint = s.breakpoint ∧
    t.breakHit = s.breakHit ∧ t.faults = s.faults ∧ t.ppu = s.ppu := by
  induction h with
  | refl => exact ⟨rfl, rfl, rfl, rfl, rfl, rfl, rfl⟩
  | cpu _ _ _ _ _ _ _ _ _ _ ih => exact ih
  | store _ a v _ ih => simpa using ih

theorem Reach.memoryWf {s t : State} (h : Reach s t) (hs : s.memoryWf = true) : t.memoryWf = true := by
  induction h with
  | refl => exact hs
  | cpu _ _ _ _ _ _ _ _ _ _ ih => exact ih
  | store _ a v _ ih => exact State.memoryWf_poke a v ih

/-- A store moves the timer only by R433's and R435's writes, which keep its invariant. -/
theorem State.timer_wf_poke {s : State} (a : Word) (v : Byte) (h : s.timer.wf = true) :
    (s.poke a v).timer.wf = true := by
  rcases s.poke_cases a v with ⟨_, he⟩ | ⟨_, he⟩ | he | ⟨_, he⟩ <;> rw [he]
  · unfold State.ioPoke
    cases ioReg a <;> first | exact h | exact Timer.wf_writeTima v h | (dsimp only; split <;> exact h)
  all_goals exact h

theorem Reach.devicesWf {s t : State} (h : Reach s t) (hs : s.devicesWf = true) : t.devicesWf = true := by
  have hp := h.constants
  simp only [State.devicesWf, Bool.and_eq_true] at hs ⊢
  refine ⟨⟨by rw [hp.1]; exact hs.1.1, ?_⟩, by rw [hp.1, hp.2.2.2.2.2.2]; exact hs.2⟩
  clear hp
  induction h with
  | refl => exact hs.1.2
  | cpu _ _ _ _ _ _ _ _ _ _ ih => exact ih
  | store _ a v _ ih => exact State.timer_wf_poke a v ih

/-- R46: no store maps the boot ROM again. -/
theorem Reach.bootRomMapped {s t : State} (h : Reach s t) (hs : s.bootRomMapped = false) : t.bootRomMapped = false := by
  induction h with
  | refl => exact hs
  | cpu _ _ _ _ _ _ _ _ _ _ ih => exact ih
  | @store t _ a v _ ih =>
    rcases t.poke_cases a v with ⟨_, he⟩ | ⟨_, he⟩ | he | ⟨_, he⟩ <;> rw [he]
    · unfold State.ioPoke
      cases ioReg a <;> first | exact ih | (dsimp only; split <;> first | exact ih | rfl)
    all_goals exact ih

/-- R101, R102: a fetch that answers an instruction has moved PC, the opcode's address, the `draw()` counter and the
HALT bug, and stored nothing. -/
theorem fetchInstr_reach {i : Instr} {s t : State} (h : fetchInstr s = .next (i, t)) :
    Reach s t ∧ t.haltBug = false ∧ t.ime = s.ime ∧ t.eiPending = s.eiPending ∧ t.runState = s.runState := by
  have ho : ∀ u : State, Reach s u → Reach s (afterOpcode u) := fun u hu => by
    rw [afterOpcode_eq]
    exact hu.cpu u.regs _ u.ime u.eiPending u.runState false u.draws u.stepCycles u.opAddr
  have h8 : ∀ {u w : State} {v : Byte}, Reach s u → fetch8 u = .next (v, w) →
      Reach s w ∧ w.haltBug = u.haltBug ∧ w.ime = u.ime ∧ w.eiPending = u.eiPending ∧ w.runState = u.runState := by
    intro u w v hu hf
    obtain ⟨_, _, rfl⟩ := fetch8_eq_next hf
    exact ⟨(hu.afterRead _).setPC _, by simp⟩
  obtain ⟨⟨op, s1⟩, h1, h2⟩ := andThen_eq_next h
  obtain ⟨_, _, rfl⟩ := fetchOpcode_eq_next h1
  have hr := ho _ ((Reach.refl (s := s).cpu s.regs s.pc s.ime s.eiPending s.runState s.haltBug s.draws s.stepCycles
    s.pc).afterRead s.pc)
  have hc : (afterOpcode (State.afterRead { s with opAddr := s.pc } s.pc)).haltBug = false ∧
      (afterOpcode (State.afterRead { s with opAddr := s.pc } s.pc)).ime = s.ime ∧
      (afterOpcode (State.afterRead { s with opAddr := s.pc } s.pc)).eiPending = s.eiPending ∧
      (afterOpcode (State.afterRead { s with opAddr := s.pc } s.pc)).runState = s.runState := by
    rw [afterOpcode_eq]
    simp
  revert h2 hr hc
  generalize afterOpcode (State.afterRead { s with opAddr := s.pc } s.pc) = u
  intro h2 hr hc
  dsimp only at h2
  split at h2
  · obtain ⟨⟨e, s2⟩, h3, h4⟩ := andThen_eq_next h2
    obtain ⟨hr2, hc2⟩ := h8 hr h3
    dsimp only at h4
    split at h4
    · exact absurd h4 raise_ne_next
    · cases h4
      exact ⟨hr2, by simpa [hc] using hc2⟩
  · split at h2
    · cases h2; exact ⟨hr, hc⟩
    · split at h2
      · exact absurd h2 raise_ne_next
      · unfold fetchOperands at h2
        split at h2
        · cases h2; exact ⟨hr, hc⟩
        · obtain ⟨⟨e, s2⟩, h3, h4⟩ := andThen_eq_next h2
          obtain ⟨hr2, hc2⟩ := h8 hr h3
          cases h4
          exact ⟨hr2, by simpa [hc] using hc2⟩
        · obtain ⟨⟨e, s2⟩, h3, h4⟩ := andThen_eq_next h2
          obtain ⟨hr2, hc2⟩ := h8 hr h3
          obtain ⟨⟨e', s3⟩, h5, h6⟩ := andThen_eq_next h4
          obtain ⟨hr3, hc3⟩ := h8 hr2 h5
          cases h6
          exact ⟨hr3, by simpa [hc, hc2] using hc3⟩

/-- R412: a dispatch that answers a state has pushed PC and changed the interrupt state. -/
theorem dispatch_constants {s t : State} (h : dispatch s = .next t) :
    t.params = s.params ∧ t.bootRom = s.bootRom ∧ t.cartRom = s.cartRom ∧ t.breakpoint = s.breakpoint ∧
    t.breakHit = s.breakHit ∧ t.faults = s.faults ∧ t.ppu = s.ppu := by
  obtain ⟨_, rfl⟩ := dispatch_eq_next h
  simp [State.pushed, State.acknowledge]

theorem dispatch_memoryWf {s t : State} (h : dispatch s = .next t) (hs : s.memoryWf = true) : t.memoryWf = true := by
  obtain ⟨_, rfl⟩ := dispatch_eq_next h
  exact State.memoryWf_poke _ _ (State.memoryWf_poke _ _ hs)

/-! ## A push that cannot be made -/

/-- R215, R216, R220, R401: where the push faults, CALL, a taken CALL cc and RST fault so. -/
theorem exec_call_eq_fault {i : Instr} {s : State} {f : Fault}
    (hi : (∃ a, i = .call_a16 a) ∨ (∃ cc a, i = rowCallCond cc a ∧ condHolds cc s.regs.f = true) ∨ ∃ y, i = rowRst y)
    (h : push16 s.pc s = .fault f) : exec i s = .fault f := by
  rcases hi with ⟨a, rfl⟩ | ⟨cc, a, rfl, hc⟩ | ⟨y, rfl⟩
  · show andThen (push16 s.pc s) _ = _
    rw [h]
    rfl
  · have he : exec (rowCallCond cc a) s = opCallCond cc a s := by cases cc <;> rfl
    rw [he, opCallCond, if_pos hc, opCall, h]
    rfl
  · have he : exec (rowRst y) s = opRst y s :=
      match y with
      | 0 | 1 | 2 | 3 | 4 | 5 | 6 | 7 => rfl
    rw [he, opRst, opCall, h]
    rfl

end Sys2Proof.Machine
end

