-- ==== Sys2Proof/Laws/PerInstr.lean ====
section
/-! SUPPORT. Statements made for each instruction as syntax. Family `Length` (`30_encoding.md` R103, R105): the bytes the
encoder writes are as many as the table's length of the row. -/

namespace Sys2Proof.Laws

/-- R103: the encoding of the instruction has the length its descriptor states. -/
def Length.Statement (i : Instr) : Prop := (encode i).length = (descriptor i).length

theorem Length.nop : Length.Statement .nop := rfl
theorem Length.ld_bc_d16 (v : Word) : Length.Statement (.ld_bc_d16 v) := rfl
theorem Length.ld_atBC_a : Length.Statement .ld_atBC_a := rfl
theorem Length.inc_bc : Length.Statement .inc_bc := rfl
theorem Length.inc_b : Length.Statement .inc_b := rfl
theorem Length.dec_b : Length.Statement .dec_b := rfl
theorem Length.ld_b_d8 (n : Byte) : Length.Statement (.ld_b_d8 n) := rfl
theorem Length.rlca : Length.Statement .rlca := rfl
theorem Length.ld_atA16_sp (a : Word) : Length.Statement (.ld_atA16_sp a) := rfl
theorem Length.add_hl_bc : Length.Statement .add_hl_bc := rfl
theorem Length.ld_a_atBC : Length.Statement .ld_a_atBC := rfl
theorem Length.dec_bc : Length.Statement .dec_bc := rfl
theorem Length.inc_c : Length.Statement .inc_c := rfl
theorem Length.dec_c : Length.Statement .dec_c := rfl
theorem Length.ld_c_d8 (n : Byte) : Length.Statement (.ld_c_d8 n) := rfl
theorem Length.rrca : Length.Statement .rrca := rfl
theorem Length.stop (n : Byte) : Length.Statement (.stop n) := rfl
theorem Length.ld_de_d16 (v : Word) : Length.Statement (.ld_de_d16 v) := rfl
theorem Length.ld_atDE_a : Length.Statement .ld_atDE_a := rfl
theorem Length.inc_de : Length.Statement .inc_de := rfl
theorem Length.inc_d : Length.Statement .inc_d := rfl
theorem Length.dec_d : Length.Statement .dec_d := rfl
theorem Length.ld_d_d8 (n : Byte) : Length.Statement (.ld_d_d8 n) := rfl
theorem Length.rla : Length.Statement .rla := rfl
theorem Length.jr_e8 (n : Byte) : Length.Statement (.jr_e8 n) := rfl
theorem Length.add_hl_de : Length.Statement .add_hl_de := rfl
theorem Length.ld_a_atDE : Length.Statement .ld_a_atDE := rfl
theorem Length.dec_de : Length.Statement .dec_de := rfl
theorem Length.inc_e : Length.Statement .inc_e := rfl
theorem Length.dec_e : Length.Statement .dec_e := rfl
theorem Length.ld_e_d8 (n : Byte) : Length.Statement (.ld_e_d8 n) := rfl
theorem Length.rra : Length.Statement .rra := rfl
theorem Length.jr_nz_e8 (n : Byte) : Length.Statement (.jr_nz_e8 n) := rfl
theorem Length.ld_hl_d16 (v : Word) : Length.Statement (.ld_hl_d16 v) := rfl
theorem Length.ld_atHLi_a : Length.Statement .ld_atHLi_a := rfl
theorem Length.inc_hl : Length.Statement .inc_hl := rfl
theorem Length.inc_h : Length.Statement .inc_h := rfl
theorem Length.dec_h : Length.Statement .dec_h := rfl
theorem Length.ld_h_d8 (n : Byte) : Length.Statement (.ld_h_d8 n) := rfl
theorem Length.daa : Length.Statement .daa := rfl
theorem Length.jr_z_e8 (n : Byte) : Length.Statement (.jr_z_e8 n) := rfl
theorem Length.add_hl_hl : Length.Statement .add_hl_hl := rfl
theorem Length.ld_a_atHLi : Length.Statement .ld_a_atHLi := rfl
theorem Length.dec_hl : Length.Statement .dec_hl := rfl
theorem Length.inc_l : Length.Statement .inc_l := rfl
theorem Length.dec_l : Length.Statement .dec_l := rfl
theorem Length.ld_l_d8 (n : Byte) : Length.Statement (.ld_l_d8 n) := rfl
theorem Length.cpl : Length.Statement .cpl := rfl
theorem Length.jr_nc_e8 (n : Byte) : Length.Statement (.jr_nc_e8 n) := rfl
theorem Length.ld_sp_d16 (v : Word) : Length.Statement (.ld_sp_d16 v) := rfl
theorem Length.ld_atHLd_a : Length.Statement .ld_atHLd_a := rfl
theorem Length.inc_sp : Length.Statement .inc_sp := rfl
theorem Length.inc_atHL : Length.Statement .inc_atHL := rfl
theorem Length.dec_atHL : Length.Statement .dec_atHL := rfl
theorem Length.ld_atHL_d8 (n : Byte) : Length.Statement (.ld_atHL_d8 n) := rfl
theorem Length.scf : Length.Statement .scf := rfl
theorem Length.jr_c_e8 (n : Byte) : Length.Statement (.jr_c_e8 n) := rfl
theorem Length.add_hl_sp : Length.Statement .add_hl_sp := rfl
theorem Length.ld_a_atHLd : Length.Statement .ld_a_atHLd := rfl
theorem Length.dec_sp : Length.Statement .dec_sp := rfl
theorem Length.inc_a : Length.Statement .inc_a := rfl
theorem Length.dec_a : Length.Statement .dec_a := rfl
theorem Length.ld_a_d8 (n : Byte) : Length.Statement (.ld_a_d8 n) := rfl
theorem Length.ccf : Length.Statement .ccf := rfl
theorem Length.ld_b_b : Length.Statement .ld_b_b := rfl
theorem Length.ld_b_c : Length.Statement .ld_b_c := rfl
theorem Length.ld_b_d : Length.Statement .ld_b_d := rfl
theorem Length.ld_b_e : Length.Statement .ld_b_e := rfl
theorem Length.ld_b_h : Length.Statement .ld_b_h := rfl
theorem Length.ld_b_l : Length.Statement .ld_b_l := rfl
theorem Length.ld_b_atHL : Length.Statement .ld_b_atHL := rfl
theorem Length.ld_b_a : Length.Statement .ld_b_a := rfl
theorem Length.ld_c_b : Length.Statement .ld_c_b := rfl
theorem Length.ld_c_c : Length.Statement .ld_c_c := rfl
theorem Length.ld_c_d : Length.Statement .ld_c_d := rfl
theorem Length.ld_c_e : Length.Statement .ld_c_e := rfl
theorem Length.ld_c_h : Length.Statement .ld_c_h := rfl
theorem Length.ld_c_l : Length.Statement .ld_c_l := rfl
theorem Length.ld_c_atHL : Length.Statement .ld_c_atHL := rfl
theorem Length.ld_c_a : Length.Statement .ld_c_a := rfl
theorem Length.ld_d_b : Length.Statement .ld_d_b := rfl
theorem Length.ld_d_c : Length.Statement .ld_d_c := rfl
theorem Length.ld_d_d : Length.Statement .ld_d_d := rfl
theorem Length.ld_d_e : Length.Statement .ld_d_e := rfl
theorem Length.ld_d_h : Length.Statement .ld_d_h := rfl
theorem Length.ld_d_l : Length.Statement .ld_d_l := rfl
theorem Length.ld_d_atHL : Length.Statement .ld_d_atHL := rfl
theorem Length.ld_d_a : Length.Statement .ld_d_a := rfl
theorem Length.ld_e_b : Length.Statement .ld_e_b := rfl
theorem Length.ld_e_c : Length.Statement .ld_e_c := rfl
theorem Length.ld_e_d : Length.Statement .ld_e_d := rfl
theorem Length.ld_e_e : Length.Statement .ld_e_e := rfl
theorem Length.ld_e_h : Length.Statement .ld_e_h := rfl
theorem Length.ld_e_l : Length.Statement .ld_e_l := rfl
theorem Length.ld_e_atHL : Length.Statement .ld_e_atHL := rfl
theorem Length.ld_e_a : Length.Statement .ld_e_a := rfl
theorem Length.ld_h_b : Length.Statement .ld_h_b := rfl
theorem Length.ld_h_c : Length.Statement .ld_h_c := rfl
theorem Length.ld_h_d : Length.Statement .ld_h_d := rfl
theorem Length.ld_h_e : Length.Statement .ld_h_e := rfl
theorem Length.ld_h_h : Length.Statement .ld_h_h := rfl
theorem Length.ld_h_l : Length.Statement .ld_h_l := rfl
theorem Length.ld_h_atHL : Length.Statement .ld_h_atHL := rfl
theorem Length.ld_h_a : Length.Statement .ld_h_a := rfl
theorem Length.ld_l_b : Length.Statement .ld_l_b := rfl
theorem Length.ld_l_c : Length.Statement .ld_l_c := rfl
theorem Length.ld_l_d : Length.Statement .ld_l_d := rfl
theorem Length.ld_l_e : Length.Statement .ld_l_e := rfl
theorem Length.ld_l_h : Length.Statement .ld_l_h := rfl
theorem Length.ld_l_l : Length.Statement .ld_l_l := rfl
theorem Length.ld_l_atHL : Length.Statement .ld_l_atHL := rfl
theorem Length.ld_l_a : Length.Statement .ld_l_a := rfl
theorem Length.ld_atHL_b : Length.Statement .ld_atHL_b := rfl
theorem Length.ld_atHL_c : Length.Statement .ld_atHL_c := rfl
theorem Length.ld_atHL_d : Length.Statement .ld_atHL_d := rfl
theorem Length.ld_atHL_e : Length.Statement .ld_atHL_e := rfl
theorem Length.ld_atHL_h : Length.Statement .ld_atHL_h := rfl
theorem Length.ld_atHL_l : Length.Statement .ld_atHL_l := rfl
theorem Length.halt : Length.Statement .halt := rfl
theorem Length.ld_atHL_a : Length.Statement .ld_atHL_a := rfl
theorem Length.ld_a_b : Length.Statement .ld_a_b := rfl
theorem Length.ld_a_c : Length.Statement .ld_a_c := rfl
theorem Length.ld_a_d : Length.Statement .ld_a_d := rfl
theorem Length.ld_a_e : Length.Statement .ld_a_e := rfl
theorem Length.ld_a_h : Length.Statement .ld_a_h := rfl
theorem Length.ld_a_l : Length.Statement .ld_a_l := rfl
theorem Length.ld_a_atHL : Length.Statement .ld_a_atHL := rfl
theorem Length.ld_a_a : Length.Statement .ld_a_a := rfl
theorem Length.add_a_b : Length.Statement .add_a_b := rfl
theorem Length.add_a_c : Length.Statement .add_a_c := rfl
theorem Length.add_a_d : Length.Statement .add_a_d := rfl
theorem Length.add_a_e : Length.Statement .add_a_e := rfl
theorem Length.add_a_h : Length.Statement .add_a_h := rfl
theorem Length.add_a_l : Length.Statement .add_a_l := rfl
theorem Length.add_a_atHL : Length.Statement .add_a_atHL := rfl
theorem Length.add_a_a : Length.Statement .add_a_a := rfl
theorem Length.adc_a_b : Length.Statement .adc_a_b := rfl
theorem Length.adc_a_c : Length.Statement .adc_a_c := rfl
theorem Length.adc_a_d : Length.Statement .adc_a_d := rfl
theorem Length.adc_a_e : Length.Statement .adc_a_e := rfl
theorem Length.adc_a_h : Length.Statement .adc_a_h := rfl
theorem Length.adc_a_l : Length.Statement .adc_a_l := rfl
theorem Length.adc_a_atHL : Length.Statement .adc_a_atHL := rfl
theorem Length.adc_a_a : Length.Statement .adc_a_a := rfl
theorem Length.sub_b : Length.Statement .sub_b := rfl
theorem Length.sub_c : Length.Statement .sub_c := rfl
theorem Length.sub_d : Length.Statement .sub_d := rfl
theorem Length.sub_e : Length.Statement .sub_e := rfl
theorem Length.sub_h : Length.Statement .sub_h := rfl
theorem Length.sub_l : Length.Statement .sub_l := rfl
theorem Length.sub_atHL : Length.Statement .sub_atHL := rfl
theorem Length.sub_a : Length.Statement .sub_a := rfl
theorem Length.sbc_a_b : Length.Statement .sbc_a_b := rfl
theorem Length.sbc_a_c : Length.Statement .sbc_a_c := rfl
theorem Length.sbc_a_d : Length.Statement .sbc_a_d := rfl
theorem Length.sbc_a_e : Length.Statement .sbc_a_e := rfl
theorem Length.sbc_a_h : Length.Statement .sbc_a_h := rfl
theorem Length.sbc_a_l : Length.Statement .sbc_a_l := rfl
theorem Length.sbc_a_atHL : Length.Statement .sbc_a_atHL := rfl
theorem Length.sbc_a_a : Length.Statement .sbc_a_a := rfl
theorem Length.and_b : Length.Statement .and_b := rfl
theorem Length.and_c : Length.Statement .and_c := rfl
theorem Length.and_d : Length.Statement .and_d := rfl
theorem Length.and_e : Length.Statement .and_e := rfl
theorem Length.and_h : Length.Statement .and_h := rfl
theorem Length.and_l : Length.Statement .and_l := rfl
theorem Length.and_atHL : Length.Statement .and_atHL := rfl
theorem Length.and_a : Length.Statement .and_a := rfl
theorem Length.xor_b : Length.Statement .xor_b := rfl
theorem Length.xor_c : Length.Statement .xor_c := rfl
theorem Length.xor_d : Length.Statement .xor_d := rfl
theorem Length.xor_e : Length.Statement .xor_e := rfl
theorem Length.xor_h : Length.Statement .xor_h := rfl
theorem Length.xor_l : Length.Statement .xor_l := rfl
theorem Length.xor_atHL : Length.Statement .xor_atHL := rfl
theorem Length.xor_a : Length.Statement .xor_a := rfl
theorem Length.or_b : Length.Statement .or_b := rfl
theorem Length.or_c : Length.Statement .or_c := rfl
theorem Length.or_d : Length.Statement .or_d := rfl
theorem Length.or_e : Length.Statement .or_e := rfl
theorem Length.or_h : Length.Statement .or_h := rfl
theorem Length.or_l : Length.Statement .or_l := rfl
theorem Length.or_atHL : Length.Statement .or_atHL := rfl
theorem Length.or_a : Length.Statement .or_a := rfl
theorem Length.cp_b : Length.Statement .cp_b := rfl
theorem Length.cp_c : Length.Statement .cp_c := rfl
theorem Length.cp_d : Length.Statement .cp_d := rfl
theorem Length.cp_e : Length.Statement .cp_e := rfl
theorem Length.cp_h : Length.Statement .cp_h := rfl
theorem Length.cp_l : Length.Statement .cp_l := rfl
theorem Length.cp_atHL : Length.Statement .cp_atHL := rfl
theorem Length.cp_a : Length.Statement .cp_a := rfl
theorem Length.ret_nz : Length.Statement .ret_nz := rfl
theorem Length.pop_bc : Length.Statement .pop_bc := rfl
theorem Length.jp_nz_a16 (a : Word) : Length.Statement (.jp_nz_a16 a) := rfl
theorem Length.jp_a16 (a : Word) : Length.Statement (.jp_a16 a) := rfl
theorem Length.call_nz_a16 (a : Word) : Length.Statement (.call_nz_a16 a) := rfl
theorem Length.push_bc : Length.Statement .push_bc := rfl
theorem Length.add_a_d8 (n : Byte) : Length.Statement (.add_a_d8 n) := rfl
theorem Length.rst_00h : Length.Statement .rst_00h := rfl
theorem Length.ret_z : Length.Statement .ret_z := rfl
theorem Length.ret : Length.Statement .ret := rfl
theorem Length.jp_z_a16 (a : Word) : Length.Statement (.jp_z_a16 a) := rfl
theorem Length.prefixCB : Length.Statement .prefixCB := rfl
theorem Length.call_z_a16 (a : Word) : Length.Statement (.call_z_a16 a) := rfl
theorem Length.call_a16 (a : Word) : Length.Statement (.call_a16 a) := rfl
theorem Length.adc_a_d8 (n : Byte) : Length.Statement (.adc_a_d8 n) := rfl
theorem Length.rst_08h : Length.Statement .rst_08h := rfl
theorem Length.ret_nc : Length.Statement .ret_nc := rfl
theorem Length.pop_de : Length.Statement .pop_de := rfl
theorem Length.jp_nc_a16 (a : Word) : Length.Statement (.jp_nc_a16 a) := rfl
theorem Length.illegalD3 : Length.Statement .illegalD3 := rfl
theorem Length.call_nc_a16 (a : Word) : Length.Statement (.call_nc_a16 a) := rfl
theorem Length.push_de : Length.Statement .push_de := rfl
theorem Length.sub_d8 (n : Byte) : Length.Statement (.sub_d8 n) := rfl
theorem Length.rst_10h : Length.Statement .rst_10h := rfl
theorem Length.ret_c : Length.Statement .ret_c := rfl
theorem Length.reti : Length.Statement .reti := rfl
theorem Length.jp_c_a16 (a : Word) : Length.Statement (.jp_c_a16 a) := rfl
theorem Length.illegalDB : Length.Statement .illegalDB := rfl
theorem Length.call_c_a16 (a : Word) : Length.Statement (.call_c_a16 a) := rfl
theorem Length.illegalDD : Length.Statement .illegalDD := rfl
theorem Length.sbc_a_d8 (n : Byte) : Length.Statement (.sbc_a_d8 n) := rfl
theorem Length.rst_18h : Length.Statement .rst_18h := rfl
theorem Length.ldh_atA8_a (n : Byte) : Length.Statement (.ldh_atA8_a n) := rfl
theorem Length.pop_hl : Length.Statement .pop_hl := rfl
theorem Length.ld_atC_a : Length.Statement .ld_atC_a := rfl
theorem Length.illegalE3 : Length.Statement .illegalE3 := rfl
theorem Length.illegalE4 : Length.Statement .illegalE4 := rfl
theorem Length.push_hl : Length.Statement .push_hl := rfl
theorem Length.and_d8 (n : Byte) : Length.Statement (.and_d8 n) := rfl
theorem Length.rst_20h : Length.Statement .rst_20h := rfl
theorem Length.add_sp_e8 (n : Byte) : Length.Statement (.add_sp_e8 n) := rfl
theorem Length.jp_hl : Length.Statement .jp_hl := rfl
theorem Length.ld_atA16_a (a : Word) : Length.Statement (.ld_atA16_a a) := rfl
theorem Length.illegalEB : Length.Statement .illegalEB := rfl
theorem Length.illegalEC : Length.Statement .illegalEC := rfl
theorem Length.illegalED : Length.Statement .illegalED := rfl
theorem Length.xor_d8 (n : Byte) : Length.Statement (.xor_d8 n) := rfl
theorem Length.rst_28h : Length.Statement .rst_28h := rfl
theorem Length.ldh_a_atA8 (n : Byte) : Length.Statement (.ldh_a_atA8 n) := rfl
theorem Length.pop_af : Length.Statement .pop_af := rfl
theorem Length.ld_a_atC : Length.Statement .ld_a_atC := rfl
theorem Length.di : Length.Statement .di := rfl
theorem Length.illegalF4 : Length.Statement .illegalF4 := rfl
theorem Length.push_af : Length.Statement .push_af := rfl
theorem Length.or_d8 (n : Byte) : Length.Statement (.or_d8 n) := rfl
theorem Length.rst_30h : Length.Statement .rst_30h := rfl
theorem Length.ld_hl_spE8 (n : Byte) : Length.Statement (.ld_hl_spE8 n) := rfl
theorem Length.ld_sp_hl : Length.Statement .ld_sp_hl := rfl
theorem Length.ld_a_atA16 (a : Word) : Length.Statement (.ld_a_atA16 a) := rfl
theorem Length.ei : Length.Statement .ei := rfl
theorem Length.illegalFC : Length.Statement .illegalFC := rfl
theorem Length.illegalFD : Length.Statement .illegalFD := rfl
theorem Length.cp_d8 (n : Byte) : Length.Statement (.cp_d8 n) := rfl
theorem Length.rst_38h : Length.Statement .rst_38h := rfl
theorem Length.rlc_b : Length.Statement .rlc_b := rfl
theorem Length.rlc_c : Length.Statement .rlc_c := rfl
theorem Length.rlc_d : Length.Statement .rlc_d := rfl
theorem Length.rlc_e : Length.Statement .rlc_e := rfl
theorem Length.rlc_h : Length.Statement .rlc_h := rfl
theorem Length.rlc_l : Length.Statement .rlc_l := rfl
theorem Length.rlc_atHL : Length.Statement .rlc_atHL := rfl
theorem Length.rlc_a : Length.Statement .rlc_a := rfl
theorem Length.rrc_b : Length.Statement .rrc_b := rfl
theorem Length.rrc_c : Length.Statement .rrc_c := rfl
theorem Length.rrc_d : Length.Statement .rrc_d := rfl
theorem Length.rrc_e : Length.Statement .rrc_e := rfl
theorem Length.rrc_h : Length.Statement .rrc_h := rfl
theorem Length.rrc_l : Length.Statement .rrc_l := rfl
theorem Length.rrc_atHL : Length.Statement .rrc_atHL := rfl
theorem Length.rrc_a : Length.Statement .rrc_a := rfl
theorem Length.rl_b : Length.Statement .rl_b := rfl
theorem Length.rl_c : Length.Statement .rl_c := rfl
theorem Length.rl_d : Length.Statement .rl_d := rfl
theorem Length.rl_e : Length.Statement .rl_e := rfl
theorem Length.rl_h : Length.Statement .rl_h := rfl
theorem Length.rl_l : Length.Statement .rl_l := rfl
theorem Length.rl_atHL : Length.Statement .rl_atHL := rfl
theorem Length.rl_a : Length.Statement .rl_a := rfl
theorem Length.rr_b : Length.Statement .rr_b := rfl
theorem Length.rr_c : Length.Statement .rr_c := rfl
theorem Length.rr_d : Length.Statement .rr_d := rfl
theorem Length.rr_e : Length.Statement .rr_e := rfl
theorem Length.rr_h : Length.Statement .rr_h := rfl
theorem Length.rr_l : Length.Statement .rr_l := rfl
theorem Length.rr_atHL : Length.Statement .rr_atHL := rfl
theorem Length.rr_a : Length.Statement .rr_a := rfl
theorem Length.sla_b : Length.Statement .sla_b := rfl
theorem Length.sla_c : Length.Statement .sla_c := rfl
theorem Length.sla_d : Length.Statement .sla_d := rfl
theorem Length.sla_e : Length.Statement .sla_e := rfl
theorem Length.sla_h : Length.Statement .sla_h := rfl
theorem Length.sla_l : Length.Statement .sla_l := rfl
theorem Length.sla_atHL : Length.Statement .sla_atHL := rfl
theorem Length.sla_a : Length.Statement .sla_a := rfl
theorem Length.sra_b : Length.Statement .sra_b := rfl
theorem Length.sra_c : Length.Statement .sra_c := rfl
theorem Length.sra_d : Length.Statement .sra_d := rfl
theorem Length.sra_e : Length.Statement .sra_e := rfl
theorem Length.sra_h : Length.Statement .sra_h := rfl
theorem Length.sra_l : Length.Statement .sra_l := rfl
theorem Length.sra_atHL : Length.Statement .sra_atHL := rfl
theorem Length.sra_a : Length.Statement .sra_a := rfl
theorem Length.swap_b : Length.Statement .swap_b := rfl
theorem Length.swap_c : Length.Statement .swap_c := rfl
theorem Length.swap_d : Length.Statement .swap_d := rfl
theorem Length.swap_e : Length.Statement .swap_e := rfl
theorem Length.swap_h : Length.Statement .swap_h := rfl
theorem Length.swap_l : Length.Statement .swap_l := rfl
theorem Length.swap_atHL : Length.Statement .swap_atHL := rfl
theorem Length.swap_a : Length.Statement .swap_a := rfl
theorem Length.srl_b : Length.Statement .srl_b := rfl
theorem Length.srl_c : Length.Statement .srl_c := rfl
theorem Length.srl_d : Length.Statement .srl_d := rfl
theorem Length.srl_e : Length.Statement .srl_e := rfl
theorem Length.srl_h : Length.Statement .srl_h := rfl
theorem Length.srl_l : Length.Statement .srl_l := rfl
theorem Length.srl_atHL : Length.Statement .srl_atHL := rfl
theorem Length.srl_a : Length.Statement .srl_a := rfl
theorem Length.bit_0_b : Length.Statement .bit_0_b := rfl
theorem Length.bit_0_c : Length.Statement .bit_0_c := rfl
theorem Length.bit_0_d : Length.Statement .bit_0_d := rfl
theorem Length.bit_0_e : Length.Statement .bit_0_e := rfl
theorem Length.bit_0_h : Length.Statement .bit_0_h := rfl
theorem Length.bit_0_l : Length.Statement .bit_0_l := rfl
theorem Length.bit_0_atHL : Length.Statement .bit_0_atHL := rfl
theorem Length.bit_0_a : Length.Statement .bit_0_a := rfl
theorem Length.bit_1_b : Length.Statement .bit_1_b := rfl
theorem Length.bit_1_c : Length.Statement .bit_1_c := rfl
theorem Length.bit_1_d : Length.Statement .bit_1_d := rfl
theorem Length.bit_1_e : Length.Statement .bit_1_e := rfl
theorem Length.bit_1_h : Length.Statement .bit_1_h := rfl
theorem Length.bit_1_l : Length.Statement .bit_1_l := rfl
theorem Length.bit_1_atHL : Length.Statement .bit_1_atHL := rfl
theorem Length.bit_1_a : Length.Statement .bit_1_a := rfl
theorem Length.bit_2_b : Length.Statement .bit_2_b := rfl
theorem Length.bit_2_c : Length.Statement .bit_2_c := rfl
theorem Length.bit_2_d : Length.Statement .bit_2_d := rfl
theorem Length.bit_2_e : Length.Statement .bit_2_e := rfl
theorem Length.bit_2_h : Length.Statement .bit_2_h := rfl
theorem Length.bit_2_l : Length.Statement .bit_2_l := rfl
theorem Length.bit_2_atHL : Length.Statement .bit_2_atHL := rfl
theorem Length.bit_2_a : Length.Statement .bit_2_a := rfl
theorem Length.bit_3_b : Length.Statement .bit_3_b := rfl
theorem Length.bit_3_c : Length.Statement .bit_3_c := rfl
theorem Length.bit_3_d : Length.Statement .bit_3_d := rfl
theorem Length.bit_3_e : Length.Statement .bit_3_e := rfl
theorem Length.bit_3_h : Length.Statement .bit_3_h := rfl
theorem Length.bit_3_l : Length.Statement .bit_3_l := rfl
theorem Length.bit_3_atHL : Length.Statement .bit_3_atHL := rfl
theorem Length.bit_3_a : Length.Statement .bit_3_a := rfl
theorem Length.bit_4_b : Length.Statement .bit_4_b := rfl
theorem Length.bit_4_c : Length.Statement .bit_4_c := rfl
theorem Length.bit_4_d : Length.Statement .bit_4_d := rfl
theorem Length.bit_4_e : Length.Statement .bit_4_e := rfl
theorem Length.bit_4_h : Length.Statement .bit_4_h := rfl
theorem Length.bit_4_l : Length.Statement .bit_4_l := rfl
theorem Length.bit_4_atHL : Length.Statement .bit_4_atHL := rfl
theorem Length.bit_4_a : Length.Statement .bit_4_a := rfl
theorem Length.bit_5_b : Length.Statement .bit_5_b := rfl
theorem Length.bit_5_c : Length.Statement .bit_5_c := rfl
theorem Length.bit_5_d : Length.Statement .bit_5_d := rfl
theorem Length.bit_5_e : Length.Statement .bit_5_e := rfl
theorem Length.bit_5_h : Length.Statement .bit_5_h := rfl
theorem Length.bit_5_l : Length.Statement .bit_5_l := rfl
theorem Length.bit_5_atHL : Length.Statement .bit_5_atHL := rfl
theorem Length.bit_5_a : Length.Statement .bit_5_a := rfl
theorem Length.bit_6_b : Length.Statement .bit_6_b := rfl
theorem Length.bit_6_c : Length.Statement .bit_6_c := rfl
theorem Length.bit_6_d : Length.Statement .bit_6_d := rfl
theorem Length.bit_6_e : Length.Statement .bit_6_e := rfl
theorem Length.bit_6_h : Length.Statement .bit_6_h := rfl
theorem Length.bit_6_l : Length.Statement .bit_6_l := rfl
theorem Length.bit_6_atHL : Length.Statement .bit_6_atHL := rfl
theorem Length.bit_6_a : Length.Statement .bit_6_a := rfl
theorem Length.bit_7_b : Length.Statement .bit_7_b := rfl
theorem Length.bit_7_c : Length.Statement .bit_7_c := rfl
theorem Length.bit_7_d : Length.Statement .bit_7_d := rfl
theorem Length.bit_7_e : Length.Statement .bit_7_e := rfl
theorem Length.bit_7_h : Length.Statement .bit_7_h := rfl
theorem Length.bit_7_l : Length.Statement .bit_7_l := rfl
theorem Length.bit_7_atHL : Length.Statement .bit_7_atHL := rfl
theorem Length.bit_7_a : Length.Statement .bit_7_a := rfl
theorem Length.res_0_b : Length.Statement .res_0_b := rfl
theorem Length.res_0_c : Length.Statement .res_0_c := rfl
theorem Length.res_0_d : Length.Statement .res_0_d := rfl
theorem Length.res_0_e : Length.Statement .res_0_e := rfl
theorem Length.res_0_h : Length.Statement .res_0_h := rfl
theorem Length.res_0_l : Length.Statement .res_0_l := rfl
theorem Length.res_0_atHL : Length.Statement .res_0_atHL := rfl
theorem Length.res_0_a : Length.Statement .res_0_a := rfl
theorem Length.res_1_b : Length.Statement .res_1_b := rfl
theorem Length.res_1_c : Length.Statement .res_1_c := rfl
theorem Length.res_1_d : Length.Statement .res_1_d := rfl
theorem Length.res_1_e : Length.Statement .res_1_e := rfl
theorem Length.res_1_h : Length.Statement .res_1_h := rfl
theorem Length.res_1_l : Length.Statement .res_1_l := rfl
theorem Length.res_1_atHL : Length.Statement .res_1_atHL := rfl
theorem Length.res_1_a : Length.Statement .res_1_a := rfl
theorem Length.res_2_b : Length.Statement .res_2_b := rfl
theorem Length.res_2_c : Length.Statement .res_2_c := rfl
theorem Length.res_2_d : Length.Statement .res_2_d := rfl
theorem Length.res_2_e : Length.Statement .res_2_e := rfl
theorem Length.res_2_h : Length.Statement .res_2_h := rfl
theorem Length.res_2_l : Length.Statement .res_2_l := rfl
theorem Length.res_2_atHL : Length.Statement .res_2_atHL := rfl
theorem Length.res_2_a : Length.Statement .res_2_a := rfl
theorem Length.res_3_b : Length.Statement .res_3_b := rfl
theorem Length.res_3_c : Length.Statement .res_3_c := rfl
theorem Length.res_3_d : Length.Statement .res_3_d := rfl
theorem Length.res_3_e : Length.Statement .res_3_e := rfl
theorem Length.res_3_h : Length.Statement .res_3_h := rfl
theorem Length.res_3_l : Length.Statement .res_3_l := rfl
theorem Length.res_3_atHL : Length.Statement .res_3_atHL := rfl
theorem Length.res_3_a : Length.Statement .res_3_a := rfl
theorem Length.res_4_b : Length.Statement .res_4_b := rfl
theorem Length.res_4_c : Length.Statement .res_4_c := rfl
theorem Length.res_4_d : Length.Statement .res_4_d := rfl
theorem Length.res_4_e : Length.Statement .res_4_e := rfl
theorem Length.res_4_h : Length.Statement .res_4_h := rfl
theorem Length.res_4_l : Length.Statement .res_4_l := rfl
theorem Length.res_4_atHL : Length.Statement .res_4_atHL := rfl
theorem Length.res_4_a : Length.Statement .res_4_a := rfl
theorem Length.res_5_b : Length.Statement .res_5_b := rfl
theorem Length.res_5_c : Length.Statement .res_5_c := rfl
theorem Length.res_5_d : Length.Statement .res_5_d := rfl
theorem Length.res_5_e : Length.Statement .res_5_e := rfl
theorem Length.res_5_h : Length.Statement .res_5_h := rfl
theorem Length.res_5_l : Length.Statement .res_5_l := rfl
theorem Length.res_5_atHL : Length.Statement .res_5_atHL := rfl
theorem Length.res_5_a : Length.Statement .res_5_a := rfl
theorem Length.res_6_b : Length.Statement .res_6_b := rfl
theorem Length.res_6_c : Length.Statement .res_6_c := rfl
theorem Length.res_6_d : Length.Statement .res_6_d := rfl
theorem Length.res_6_e : Length.Statement .res_6_e := rfl
theorem Length.res_6_h : Length.Statement .res_6_h := rfl
theorem Length.res_6_l : Length.Statement .res_6_l := rfl
theorem Length.res_6_atHL : Length.Statement .res_6_atHL := rfl
theorem Length.res_6_a : Length.Statement .res_6_a := rfl
theorem Length.res_7_b : Length.Statement .res_7_b := rfl
theorem Length.res_7_c : Length.Statement .res_7_c := rfl
theorem Length.res_7_d : Length.Statement .res_7_d := rfl
theorem Length.res_7_e : Length.Statement .res_7_e := rfl
theorem Length.res_7_h : Length.Statement .res_7_h := rfl
theorem Length.res_7_l : Length.Statement .res_7_l := rfl
theorem Length.res_7_atHL : Length.Statement .res_7_atHL := rfl
theorem Length.res_7_a : Length.Statement .res_7_a := rfl
theorem Length.set_0_b : Length.Statement .set_0_b := rfl
theorem Length.set_0_c : Length.Statement .set_0_c := rfl
theorem Length.set_0_d : Length.Statement .set_0_d := rfl
theorem Length.set_0_e : Length.Statement .set_0_e := rfl
theorem Length.set_0_h : Length.Statement .set_0_h := rfl
theorem Length.set_0_l : Length.Statement .set_0_l := rfl
theorem Length.set_0_atHL : Length.Statement .set_0_atHL := rfl
theorem Length.set_0_a : Length.Statement .set_0_a := rfl
theorem Length.set_1_b : Length.Statement .set_1_b := rfl
theorem Length.set_1_c : Length.Statement .set_1_c := rfl
theorem Length.set_1_d : Length.Statement .set_1_d := rfl
theorem Length.set_1_e : Length.Statement .set_1_e := rfl
theorem Length.set_1_h : Length.Statement .set_1_h := rfl
theorem Length.set_1_l : Length.Statement .set_1_l := rfl
theorem Length.set_1_atHL : Length.Statement .set_1_atHL := rfl
theorem Length.set_1_a : Length.Statement .set_1_a := rfl
theorem Length.set_2_b : Length.Statement .set_2_b := rfl
theorem Length.set_2_c : Length.Statement .set_2_c := rfl
theorem Length.set_2_d : Length.Statement .set_2_d := rfl
theorem Length.set_2_e : Length.Statement .set_2_e := rfl
theorem Length.set_2_h : Length.Statement .set_2_h := rfl
theorem Length.set_2_l : Length.Statement .set_2_l := rfl
theorem Length.set_2_atHL : Length.Statement .set_2_atHL := rfl
theorem Length.set_2_a : Length.Statement .set_2_a := rfl
theorem Length.set_3_b : Length.Statement .set_3_b := rfl
theorem Length.set_3_c : Length.Statement .set_3_c := rfl
theorem Length.set_3_d : Length.Statement .set_3_d := rfl
theorem Length.set_3_e : Length.Statement .set_3_e := rfl
theorem Length.set_3_h : Length.Statement .set_3_h := rfl
theorem Length.set_3_l : Length.Statement .set_3_l := rfl
theorem Length.set_3_atHL : Length.Statement .set_3_atHL := rfl
theorem Length.set_3_a : Length.Statement .set_3_a := rfl
theorem Length.set_4_b : Length.Statement .set_4_b := rfl
theorem Length.set_4_c : Length.Statement .set_4_c := rfl
theorem Length.set_4_d : Length.Statement .set_4_d := rfl
theorem Length.set_4_e : Length.Statement .set_4_e := rfl
theorem Length.set_4_h : Length.Statement .set_4_h := rfl
theorem Length.set_4_l : Length.Statement .set_4_l := rfl
theorem Length.set_4_atHL : Length.Statement .set_4_atHL := rfl
theorem Length.set_4_a : Length.Statement .set_4_a := rfl
theorem Length.set_5_b : Length.Statement .set_5_b := rfl
theorem Length.set_5_c : Length.Statement .set_5_c := rfl
theorem Length.set_5_d : Length.Statement .set_5_d := rfl
theorem Length.set_5_e : Length.Statement .set_5_e := rfl
theorem Length.set_5_h : Length.Statement .set_5_h := rfl
theorem Length.set_5_l : Length.Statement .set_5_l := rfl
theorem Length.set_5_atHL : Length.Statement .set_5_atHL := rfl
theorem Length.set_5_a : Length.Statement .set_5_a := rfl
theorem Length.set_6_b : Length.Statement .set_6_b := rfl
theorem Length.set_6_c : Length.Statement .set_6_c := rfl
theorem Length.set_6_d : Length.Statement .set_6_d := rfl
theorem Length.set_6_e : Length.Statement .set_6_e := rfl
theorem Length.set_6_h : Length.Statement .set_6_h := rfl
theorem Length.set_6_l : Length.Statement .set_6_l := rfl
theorem Length.set_6_atHL : Length.Statement .set_6_atHL := rfl
theorem Length.set_6_a : Length.Statement .set_6_a := rfl
theorem Length.set_7_b : Length.Statement .set_7_b := rfl
theorem Length.set_7_c : Length.Statement .set_7_c := rfl
theorem Length.set_7_d : Length.Statement .set_7_d := rfl
theorem Length.set_7_e : Length.Statement .set_7_e := rfl
theorem Length.set_7_h : Length.Statement .set_7_h := rfl
theorem Length.set_7_l : Length.Statement .set_7_l := rfl
theorem Length.set_7_atHL : Length.Statement .set_7_atHL := rfl
theorem Length.set_7_a : Length.Statement .set_7_a := rfl

end Sys2Proof.Laws
end

