-- ==== Sys2Proof/Tests/Slice0.lean ====
section
/-! SUPPORT. The model's own tests. Decoding: every row of `spec/opcode_table.json` but the prefix byte's, its bytes written
out from the row's encoding (operand byte 0x9C, operand word 0xC134). Steps: the one-step vectors of
`95_test_vectors.md`, under their names there; the expected values are the spec's. Witnesses: for every statement with
hypotheses, values that meet them. -/

namespace Sys2Proof.Tests

open Sys2Proof Sys2Proof.Machine

/-! ## Well-formedness -/

theorem test_prefix_is_ill_formed : Instr.wellFormed .prefixCB = false := by decide
theorem test_rows_are_well_formed : Instr.wellFormed .nop = true ∧ Instr.wellFormed (.stop 0xFF) = true ∧
    Instr.wellFormed .illegalD3 = true ∧ Instr.wellFormed .set_7_a = true := by decide

/-! ## Decoding and encoding, every row by its bytes -/

/-- Each list of bytes decodes to its instruction, with nothing left, and the instruction encodes to those bytes. -/
def decodeTo (rows : List (List Byte × Instr)) : Bool :=
  rows.all fun r =>
    decide (encode r.2 = r.1) &&
    match decode r.1 with
    | .ok (i, []) => decide (i = r.2)
    | _ => false

theorem test_decode_nop_stop_halt : decodeTo
  [([0x00], .nop), ([0x10, 0x9C], .stop 0x9C), ([0x76], .halt), ([0xF3], .di), ([0xFB], .ei)] = true := by decide

theorem test_decode_load_1 : decodeTo
  [([0x01, 0x34, 0xC1], .ld_bc_d16 0xC134), ([0x02], .ld_atBC_a), ([0x06, 0x9C], .ld_b_d8 0x9C),
   ([0x08, 0x34, 0xC1], .ld_atA16_sp 0xC134), ([0x0A], .ld_a_atBC), ([0x0E, 0x9C], .ld_c_d8 0x9C),
   ([0x11, 0x34, 0xC1], .ld_de_d16 0xC134), ([0x12], .ld_atDE_a), ([0x16, 0x9C], .ld_d_d8 0x9C),
   ([0x1A], .ld_a_atDE), ([0x1E, 0x9C], .ld_e_d8 0x9C), ([0x21, 0x34, 0xC1], .ld_hl_d16 0xC134),
   ([0x22], .ld_atHLi_a), ([0x26, 0x9C], .ld_h_d8 0x9C), ([0x2A], .ld_a_atHLi), ([0x2E, 0x9C], .ld_l_d8 0x9C),
   ([0x31, 0x34, 0xC1], .ld_sp_d16 0xC134), ([0x32], .ld_atHLd_a), ([0x36, 0x9C], .ld_atHL_d8 0x9C),
   ([0x3A], .ld_a_atHLd), ([0x3E, 0x9C], .ld_a_d8 0x9C), ([0x40], .ld_b_b), ([0x41], .ld_b_c), ([0x42], .ld_b_d),
   ([0x43], .ld_b_e), ([0x44], .ld_b_h), ([0x45], .ld_b_l), ([0x46], .ld_b_atHL), ([0x47], .ld_b_a),
   ([0x48], .ld_c_b), ([0x49], .ld_c_c), ([0x4A], .ld_c_d)] = true := by decide

theorem test_decode_load_2 : decodeTo
  [([0x4B], .ld_c_e), ([0x4C], .ld_c_h), ([0x4D], .ld_c_l), ([0x4E], .ld_c_atHL), ([0x4F], .ld_c_a),
   ([0x50], .ld_d_b), ([0x51], .ld_d_c), ([0x52], .ld_d_d), ([0x53], .ld_d_e), ([0x54], .ld_d_h), ([0x55], .ld_d_l),
   ([0x56], .ld_d_atHL), ([0x57], .ld_d_a), ([0x58], .ld_e_b), ([0x59], .ld_e_c), ([0x5A], .ld_e_d),
   ([0x5B], .ld_e_e), ([0x5C], .ld_e_h), ([0x5D], .ld_e_l), ([0x5E], .ld_e_atHL), ([0x5F], .ld_e_a),
   ([0x60], .ld_h_b), ([0x61], .ld_h_c), ([0x62], .ld_h_d), ([0x63], .ld_h_e), ([0x64], .ld_h_h), ([0x65], .ld_h_l),
   ([0x66], .ld_h_atHL), ([0x67], .ld_h_a), ([0x68], .ld_l_b), ([0x69], .ld_l_c), ([0x6A], .ld_l_d)] = true := by decide

theorem test_decode_load_3 : decodeTo
  [([0x6B], .ld_l_e), ([0x6C], .ld_l_h), ([0x6D], .ld_l_l), ([0x6E], .ld_l_atHL), ([0x6F], .ld_l_a),
   ([0x70], .ld_atHL_b), ([0x71], .ld_atHL_c), ([0x72], .ld_atHL_d), ([0x73], .ld_atHL_e), ([0x74], .ld_atHL_h),
   ([0x75], .ld_atHL_l), ([0x77], .ld_atHL_a), ([0x78], .ld_a_b), ([0x79], .ld_a_c), ([0x7A], .ld_a_d),
   ([0x7B], .ld_a_e), ([0x7C], .ld_a_h), ([0x7D], .ld_a_l), ([0x7E], .ld_a_atHL), ([0x7F], .ld_a_a),
   ([0xEA, 0x34, 0xC1], .ld_atA16_a 0xC134), ([0xF8, 0x9C], .ld_hl_spE8 0x9C), ([0xF9], .ld_sp_hl),
   ([0xFA, 0x34, 0xC1], .ld_a_atA16 0xC134)] = true := by decide

theorem test_decode_inc_dec : decodeTo
  [([0x03], .inc_bc), ([0x04], .inc_b), ([0x05], .dec_b), ([0x0B], .dec_bc), ([0x0C], .inc_c), ([0x0D], .dec_c),
   ([0x13], .inc_de), ([0x14], .inc_d), ([0x15], .dec_d), ([0x1B], .dec_de), ([0x1C], .inc_e), ([0x1D], .dec_e),
   ([0x23], .inc_hl), ([0x24], .inc_h), ([0x25], .dec_h), ([0x2B], .dec_hl), ([0x2C], .inc_l), ([0x2D], .dec_l),
   ([0x33], .inc_sp), ([0x34], .inc_atHL), ([0x35], .dec_atHL), ([0x3B], .dec_sp), ([0x3C], .inc_a),
   ([0x3D], .dec_a)] = true := by decide

theorem test_decode_accumulator_misc : decodeTo
  [([0x07], .rlca), ([0x0F], .rrca), ([0x17], .rla), ([0x1F], .rra), ([0x27], .daa), ([0x2F], .cpl), ([0x37], .scf),
   ([0x3F], .ccf)] = true := by decide

theorem test_decode_alu_1 : decodeTo
  [([0x09], .add_hl_bc), ([0x19], .add_hl_de), ([0x29], .add_hl_hl), ([0x39], .add_hl_sp), ([0x80], .add_a_b),
   ([0x81], .add_a_c), ([0x82], .add_a_d), ([0x83], .add_a_e), ([0x84], .add_a_h), ([0x85], .add_a_l),
   ([0x86], .add_a_atHL), ([0x87], .add_a_a), ([0x88], .adc_a_b), ([0x89], .adc_a_c), ([0x8A], .adc_a_d),
   ([0x8B], .adc_a_e), ([0x8C], .adc_a_h), ([0x8D], .adc_a_l), ([0x8E], .adc_a_atHL), ([0x8F], .adc_a_a),
   ([0x90], .sub_b), ([0x91], .sub_c), ([0x92], .sub_d), ([0x93], .sub_e), ([0x94], .sub_h), ([0x95], .sub_l),
   ([0x96], .sub_atHL), ([0x97], .sub_a), ([0x98], .sbc_a_b), ([0x99], .sbc_a_c), ([0x9A], .sbc_a_d),
   ([0x9B], .sbc_a_e)] = true := by decide

theorem test_decode_alu_2 : decodeTo
  [([0x9C], .sbc_a_h), ([0x9D], .sbc_a_l), ([0x9E], .sbc_a_atHL), ([0x9F], .sbc_a_a), ([0xA0], .and_b),
   ([0xA1], .and_c), ([0xA2], .and_d), ([0xA3], .and_e), ([0xA4], .and_h), ([0xA5], .and_l), ([0xA6], .and_atHL),
   ([0xA7], .and_a), ([0xA8], .xor_b), ([0xA9], .xor_c), ([0xAA], .xor_d), ([0xAB], .xor_e), ([0xAC], .xor_h),
   ([0xAD], .xor_l), ([0xAE], .xor_atHL), ([0xAF], .xor_a), ([0xB0], .or_b), ([0xB1], .or_c), ([0xB2], .or_d),
   ([0xB3], .or_e), ([0xB4], .or_h), ([0xB5], .or_l), ([0xB6], .or_atHL), ([0xB7], .or_a), ([0xB8], .cp_b),
   ([0xB9], .cp_c), ([0xBA], .cp_d), ([0xBB], .cp_e)] = true := by decide

theorem test_decode_alu_3 : decodeTo
  [([0xBC], .cp_h), ([0xBD], .cp_l), ([0xBE], .cp_atHL), ([0xBF], .cp_a), ([0xC6, 0x9C], .add_a_d8 0x9C),
   ([0xCE, 0x9C], .adc_a_d8 0x9C), ([0xD6, 0x9C], .sub_d8 0x9C), ([0xDE, 0x9C], .sbc_a_d8 0x9C),
   ([0xE6, 0x9C], .and_d8 0x9C), ([0xE8, 0x9C], .add_sp_e8 0x9C), ([0xEE, 0x9C], .xor_d8 0x9C),
   ([0xF6, 0x9C], .or_d8 0x9C), ([0xFE, 0x9C], .cp_d8 0x9C)] = true := by decide

theorem test_decode_control : decodeTo
  [([0x18, 0x9C], .jr_e8 0x9C), ([0x20, 0x9C], .jr_nz_e8 0x9C), ([0x28, 0x9C], .jr_z_e8 0x9C),
   ([0x30, 0x9C], .jr_nc_e8 0x9C), ([0x38, 0x9C], .jr_c_e8 0x9C), ([0xC0], .ret_nz),
   ([0xC2, 0x34, 0xC1], .jp_nz_a16 0xC134), ([0xC3, 0x34, 0xC1], .jp_a16 0xC134),
   ([0xC4, 0x34, 0xC1], .call_nz_a16 0xC134), ([0xC7], .rst_00h), ([0xC8], .ret_z), ([0xC9], .ret),
   ([0xCA, 0x34, 0xC1], .jp_z_a16 0xC134), ([0xCC, 0x34, 0xC1], .call_z_a16 0xC134),
   ([0xCD, 0x34, 0xC1], .call_a16 0xC134), ([0xCF], .rst_08h), ([0xD0], .ret_nc),
   ([0xD2, 0x34, 0xC1], .jp_nc_a16 0xC134), ([0xD4, 0x34, 0xC1], .call_nc_a16 0xC134), ([0xD7], .rst_10h),
   ([0xD8], .ret_c), ([0xD9], .reti), ([0xDA, 0x34, 0xC1], .jp_c_a16 0xC134),
   ([0xDC, 0x34, 0xC1], .call_c_a16 0xC134), ([0xDF], .rst_18h), ([0xE7], .rst_20h), ([0xE9], .jp_hl),
   ([0xEF], .rst_28h), ([0xF7], .rst_30h), ([0xFF], .rst_38h)] = true := by decide

theorem test_decode_push_pop : decodeTo
  [([0xC1], .pop_bc), ([0xC5], .push_bc), ([0xD1], .pop_de), ([0xD5], .push_de), ([0xE1], .pop_hl),
   ([0xE5], .push_hl), ([0xF1], .pop_af), ([0xF5], .push_af)] = true := by decide

theorem test_decode_illegal : decodeTo
  [([0xD3], .illegalD3), ([0xDB], .illegalDB), ([0xDD], .illegalDD), ([0xE3], .illegalE3), ([0xE4], .illegalE4),
   ([0xEB], .illegalEB), ([0xEC], .illegalEC), ([0xED], .illegalED), ([0xF4], .illegalF4), ([0xFC], .illegalFC),
   ([0xFD], .illegalFD)] = true := by decide

theorem test_decode_io_port : decodeTo
  [([0xE0, 0x9C], .ldh_atA8_a 0x9C), ([0xE2], .ld_atC_a), ([0xF0, 0x9C], .ldh_a_atA8 0x9C), ([0xF2], .ld_a_atC)] = true := by decide

theorem test_decode_ext_rotate_shift_1 : decodeTo
  [([0xCB, 0x00], .rlc_b), ([0xCB, 0x01], .rlc_c), ([0xCB, 0x02], .rlc_d), ([0xCB, 0x03], .rlc_e),
   ([0xCB, 0x04], .rlc_h), ([0xCB, 0x05], .rlc_l), ([0xCB, 0x06], .rlc_atHL), ([0xCB, 0x07], .rlc_a),
   ([0xCB, 0x08], .rrc_b), ([0xCB, 0x09], .rrc_c), ([0xCB, 0x0A], .rrc_d), ([0xCB, 0x0B], .rrc_e),
   ([0xCB, 0x0C], .rrc_h), ([0xCB, 0x0D], .rrc_l), ([0xCB, 0x0E], .rrc_atHL), ([0xCB, 0x0F], .rrc_a),
   ([0xCB, 0x10], .rl_b), ([0xCB, 0x11], .rl_c), ([0xCB, 0x12], .rl_d), ([0xCB, 0x13], .rl_e),
   ([0xCB, 0x14], .rl_h), ([0xCB, 0x15], .rl_l), ([0xCB, 0x16], .rl_atHL), ([0xCB, 0x17], .rl_a),
   ([0xCB, 0x18], .rr_b), ([0xCB, 0x19], .rr_c), ([0xCB, 0x1A], .rr_d), ([0xCB, 0x1B], .rr_e),
   ([0xCB, 0x1C], .rr_h), ([0xCB, 0x1D], .rr_l), ([0xCB, 0x1E], .rr_atHL), ([0xCB, 0x1F], .rr_a)] = true := by decide

theorem test_decode_ext_rotate_shift_2 : decodeTo
  [([0xCB, 0x20], .sla_b), ([0xCB, 0x21], .sla_c), ([0xCB, 0x22], .sla_d), ([0xCB, 0x23], .sla_e),
   ([0xCB, 0x24], .sla_h), ([0xCB, 0x25], .sla_l), ([0xCB, 0x26], .sla_atHL), ([0xCB, 0x27], .sla_a),
   ([0xCB, 0x28], .sra_b), ([0xCB, 0x29], .sra_c), ([0xCB, 0x2A], .sra_d), ([0xCB, 0x2B], .sra_e),
   ([0xCB, 0x2C], .sra_h), ([0xCB, 0x2D], .sra_l), ([0xCB, 0x2E], .sra_atHL), ([0xCB, 0x2F], .sra_a),
   ([0xCB, 0x30], .swap_b), ([0xCB, 0x31], .swap_c), ([0xCB, 0x32], .swap_d), ([0xCB, 0x33], .swap_e),
   ([0xCB, 0x34], .swap_h), ([0xCB, 0x35], .swap_l), ([0xCB, 0x36], .swap_atHL), ([0xCB, 0x37], .swap_a),
   ([0xCB, 0x38], .srl_b), ([0xCB, 0x39], .srl_c), ([0xCB, 0x3A], .srl_d), ([0xCB, 0x3B], .srl_e),
   ([0xCB, 0x3C], .srl_h), ([0xCB, 0x3D], .srl_l), ([0xCB, 0x3E], .srl_atHL), ([0xCB, 0x3F], .srl_a)] = true := by decide

theorem test_decode_ext_bit_1 : decodeTo
  [([0xCB, 0x40], .bit_0_b), ([0xCB, 0x41], .bit_0_c), ([0xCB, 0x42], .bit_0_d), ([0xCB, 0x43], .bit_0_e),
   ([0xCB, 0x44], .bit_0_h), ([0xCB, 0x45], .bit_0_l), ([0xCB, 0x46], .bit_0_atHL), ([0xCB, 0x47], .bit_0_a),
   ([0xCB, 0x48], .bit_1_b), ([0xCB, 0x49], .bit_1_c), ([0xCB, 0x4A], .bit_1_d), ([0xCB, 0x4B], .bit_1_e),
   ([0xCB, 0x4C], .bit_1_h), ([0xCB, 0x4D], .bit_1_l), ([0xCB, 0x4E], .bit_1_atHL), ([0xCB, 0x4F], .bit_1_a),
   ([0xCB, 0x50], .bit_2_b), ([0xCB, 0x51], .bit_2_c), ([0xCB, 0x52], .bit_2_d), ([0xCB, 0x53], .bit_2_e),
   ([0xCB, 0x54], .bit_2_h), ([0xCB, 0x55], .bit_2_l), ([0xCB, 0x56], .bit_2_atHL), ([0xCB, 0x57], .bit_2_a),
   ([0xCB, 0x58], .bit_3_b), ([0xCB, 0x59], .bit_3_c), ([0xCB, 0x5A], .bit_3_d), ([0xCB, 0x5B], .bit_3_e),
   ([0xCB, 0x5C], .bit_3_h), ([0xCB, 0x5D], .bit_3_l), ([0xCB, 0x5E], .bit_3_atHL), ([0xCB, 0x5F], .bit_3_a)] = true := by decide

theorem test_decode_ext_bit_2 : decodeTo
  [([0xCB, 0x60], .bit_4_b), ([0xCB, 0x61], .bit_4_c), ([0xCB, 0x62], .bit_4_d), ([0xCB, 0x63], .bit_4_e),
   ([0xCB, 0x64], .bit_4_h), ([0xCB, 0x65], .bit_4_l), ([0xCB, 0x66], .bit_4_atHL), ([0xCB, 0x67], .bit_4_a),
   ([0xCB, 0x68], .bit_5_b), ([0xCB, 0x69], .bit_5_c), ([0xCB, 0x6A], .bit_5_d), ([0xCB, 0x6B], .bit_5_e),
   ([0xCB, 0x6C], .bit_5_h), ([0xCB, 0x6D], .bit_5_l), ([0xCB, 0x6E], .bit_5_atHL), ([0xCB, 0x6F], .bit_5_a),
   ([0xCB, 0x70], .bit_6_b), ([0xCB, 0x71], .bit_6_c), ([0xCB, 0x72], .bit_6_d), ([0xCB, 0x73], .bit_6_e),
   ([0xCB, 0x74], .bit_6_h), ([0xCB, 0x75], .bit_6_l), ([0xCB, 0x76], .bit_6_atHL), ([0xCB, 0x77], .bit_6_a),
   ([0xCB, 0x78], .bit_7_b), ([0xCB, 0x79], .bit_7_c), ([0xCB, 0x7A], .bit_7_d), ([0xCB, 0x7B], .bit_7_e),
   ([0xCB, 0x7C], .bit_7_h), ([0xCB, 0x7D], .bit_7_l), ([0xCB, 0x7E], .bit_7_atHL), ([0xCB, 0x7F], .bit_7_a)] = true := by decide

theorem test_decode_ext_bit_3 : decodeTo
  [([0xCB, 0x80], .res_0_b), ([0xCB, 0x81], .res_0_c), ([0xCB, 0x82], .res_0_d), ([0xCB, 0x83], .res_0_e),
   ([0xCB, 0x84], .res_0_h), ([0xCB, 0x85], .res_0_l), ([0xCB, 0x86], .res_0_atHL), ([0xCB, 0x87], .res_0_a),
   ([0xCB, 0x88], .res_1_b), ([0xCB, 0x89], .res_1_c), ([0xCB, 0x8A], .res_1_d), ([0xCB, 0x8B], .res_1_e),
   ([0xCB, 0x8C], .res_1_h), ([0xCB, 0x8D], .res_1_l), ([0xCB, 0x8E], .res_1_atHL), ([0xCB, 0x8F], .res_1_a),
   ([0xCB, 0x90], .res_2_b), ([0xCB, 0x91], .res_2_c), ([0xCB, 0x92], .res_2_d), ([0xCB, 0x93], .res_2_e),
   ([0xCB, 0x94], .res_2_h), ([0xCB, 0x95], .res_2_l), ([0xCB, 0x96], .res_2_atHL), ([0xCB, 0x97], .res_2_a),
   ([0xCB, 0x98], .res_3_b), ([0xCB, 0x99], .res_3_c), ([0xCB, 0x9A], .res_3_d), ([0xCB, 0x9B], .res_3_e),
   ([0xCB, 0x9C], .res_3_h), ([0xCB, 0x9D], .res_3_l), ([0xCB, 0x9E], .res_3_atHL), ([0xCB, 0x9F], .res_3_a)] = true := by decide

theorem test_decode_ext_bit_4 : decodeTo
  [([0xCB, 0xA0], .res_4_b), ([0xCB, 0xA1], .res_4_c), ([0xCB, 0xA2], .res_4_d), ([0xCB, 0xA3], .res_4_e),
   ([0xCB, 0xA4], .res_4_h), ([0xCB, 0xA5], .res_4_l), ([0xCB, 0xA6], .res_4_atHL), ([0xCB, 0xA7], .res_4_a),
   ([0xCB, 0xA8], .res_5_b), ([0xCB, 0xA9], .res_5_c), ([0xCB, 0xAA], .res_5_d), ([0xCB, 0xAB], .res_5_e),
   ([0xCB, 0xAC], .res_5_h), ([0xCB, 0xAD], .res_5_l), ([0xCB, 0xAE], .res_5_atHL), ([0xCB, 0xAF], .res_5_a),
   ([0xCB, 0xB0], .res_6_b), ([0xCB, 0xB1], .res_6_c), ([0xCB, 0xB2], .res_6_d), ([0xCB, 0xB3], .res_6_e),
   ([0xCB, 0xB4], .res_6_h), ([0xCB, 0xB5], .res_6_l), ([0xCB, 0xB6], .res_6_atHL), ([0xCB, 0xB7], .res_6_a),
   ([0xCB, 0xB8], .res_7_b), ([0xCB, 0xB9], .res_7_c), ([0xCB, 0xBA], .res_7_d), ([0xCB, 0xBB], .res_7_e),
   ([0xCB, 0xBC], .res_7_h), ([0xCB, 0xBD], .res_7_l), ([0xCB, 0xBE], .res_7_atHL), ([0xCB, 0xBF], .res_7_a)] = true := by decide

theorem test_decode_ext_bit_5 : decodeTo
  [([0xCB, 0xC0], .set_0_b), ([0xCB, 0xC1], .set_0_c), ([0xCB, 0xC2], .set_0_d), ([0xCB, 0xC3], .set_0_e),
   ([0xCB, 0xC4], .set_0_h), ([0xCB, 0xC5], .set_0_l), ([0xCB, 0xC6], .set_0_atHL), ([0xCB, 0xC7], .set_0_a),
   ([0xCB, 0xC8], .set_1_b), ([0xCB, 0xC9], .set_1_c), ([0xCB, 0xCA], .set_1_d), ([0xCB, 0xCB], .set_1_e),
   ([0xCB, 0xCC], .set_1_h), ([0xCB, 0xCD], .set_1_l), ([0xCB, 0xCE], .set_1_atHL), ([0xCB, 0xCF], .set_1_a),
   ([0xCB, 0xD0], .set_2_b), ([0xCB, 0xD1], .set_2_c), ([0xCB, 0xD2], .set_2_d), ([0xCB, 0xD3], .set_2_e),
   ([0xCB, 0xD4], .set_2_h), ([0xCB, 0xD5], .set_2_l), ([0xCB, 0xD6], .set_2_atHL), ([0xCB, 0xD7], .set_2_a),
   ([0xCB, 0xD8], .set_3_b), ([0xCB, 0xD9], .set_3_c), ([0xCB, 0xDA], .set_3_d), ([0xCB, 0xDB], .set_3_e),
   ([0xCB, 0xDC], .set_3_h), ([0xCB, 0xDD], .set_3_l), ([0xCB, 0xDE], .set_3_atHL), ([0xCB, 0xDF], .set_3_a)] = true := by decide

theorem test_decode_ext_bit_6 : decodeTo
  [([0xCB, 0xE0], .set_4_b), ([0xCB, 0xE1], .set_4_c), ([0xCB, 0xE2], .set_4_d), ([0xCB, 0xE3], .set_4_e),
   ([0xCB, 0xE4], .set_4_h), ([0xCB, 0xE5], .set_4_l), ([0xCB, 0xE6], .set_4_atHL), ([0xCB, 0xE7], .set_4_a),
   ([0xCB, 0xE8], .set_5_b), ([0xCB, 0xE9], .set_5_c), ([0xCB, 0xEA], .set_5_d), ([0xCB, 0xEB], .set_5_e),
   ([0xCB, 0xEC], .set_5_h), ([0xCB, 0xED], .set_5_l), ([0xCB, 0xEE], .set_5_atHL), ([0xCB, 0xEF], .set_5_a),
   ([0xCB, 0xF0], .set_6_b), ([0xCB, 0xF1], .set_6_c), ([0xCB, 0xF2], .set_6_d), ([0xCB, 0xF3], .set_6_e),
   ([0xCB, 0xF4], .set_6_h), ([0xCB, 0xF5], .set_6_l), ([0xCB, 0xF6], .set_6_atHL), ([0xCB, 0xF7], .set_6_a),
   ([0xCB, 0xF8], .set_7_b), ([0xCB, 0xF9], .set_7_c), ([0xCB, 0xFA], .set_7_d), ([0xCB, 0xFB], .set_7_e),
   ([0xCB, 0xFC], .set_7_h), ([0xCB, 0xFD], .set_7_l), ([0xCB, 0xFE], .set_7_atHL), ([0xCB, 0xFF], .set_7_a)] = true := by decide

theorem test_decode_truncated : [[], [0xCB], [0x3E], [0x01, 0x34]].all (fun bytes =>
    match decode bytes with
    | .error .truncated => true
    | _ => false) = true := by decide

/-! ## One step on a small state -/

/-- Cells for the bytes from `a` on. -/
def cells : Nat → List Nat → Mem
  | _, [] => []
  | a, b :: bs => if b = 0 then cells (a + 1) bs else (a, BitVec.ofNat 8 b) :: cells (a + 1) bs

/-- The state after a POST_BOOT launch with no image (R502). -/
def postBoot : State := State.launch { Launch.default with startMode := .postBoot }

/-- The vectors' default state: POST_BOOT, with the bytes in CART_ROM at 0x0200 and PC there. -/
def code (bytes : List Nat) : State := { postBoot with pc := 0x0200, cartRom := cells 0x0200 bytes }

/-- More bytes in CART_ROM. -/
def rom (a : Nat) (bytes : List Nat) (s : State) : State := { s with cartRom := cells a bytes ++ s.cartRom }

/-- F set to a byte. -/
def flags (v : Byte) (s : State) : State := s.setF (Flags.ofByte v)

/-- Registers changed. -/
def regs (f : Regs → Regs) (s : State) : State := { s with regs := f s.regs }

/-- A byte of RAM. -/
def ram (a : Nat) (v : Byte) (s : State) : State := { s with ram := s.ram.write a v }

/-- A. -/
def acc (s : State) : Nat := s.regs.a.toNat

/-- F as a byte. -/
def flagByte (s : State) : Nat := s.regs.f.toByte.toNat

/-- The byte a read returns. -/
def byte (s : State) (a : Word) : Nat := (s.peek a).toNat

/-- One step answers a state with this property. -/
def runs (s : State) (ok : State → Bool) : Bool :=
  match step s with
  | .next t => ok t
  | _ => false

/-- The dispatch of an interrupt answers a state with this property. -/
def dispatches (s : State) (ok : State → Bool) : Bool :=
  match dispatch s with
  | .next t => ok t
  | _ => false

/-- The state a fault leaves. -/
def left : Fault → State
  | .illegalOpcode s => s
  | .refusedOpcode s => s
  | .unmodelledDevice s => s
  | .restrictedAccess s => s
  | .unmodelledHaltBug s => s
  | .dispatchPushToIE s => s
  | .alreadyFaulted s => s
  | .stuckStopped s => s

/-- One step faults and leaves a state with this property. -/
def stops (s : State) (ok : State → Bool) : Bool :=
  match step s with
  | .fault f => ok (left f)
  | _ => false

theorem test_V40_1 : runs (code [0x00]) (fun s => s.pc = 0x201 && acc s = 1 && flagByte s = 0xB0) = true := by decide
theorem test_V40_2 : runs (code [0x10, 0x00]) (fun s => s.pc = 0x202 && s.runState = .stopped) = true := by decide
theorem test_V40_3 : runs ((fun s => { s with ime := true, ie := 4, iflag := 0 }) (code [0x76]))
    (fun s => s.pc = 0x201 && s.runState = .halted) = true := by decide
theorem test_V40_6 : runs ((fun s => { s with ime := true, ie := 0, iflag := 0 }) (code [0xF3]))
    (fun s => !s.ime) = true := by decide
theorem test_V40_9 : runs ((fun s => { s with ie := 4, iflag := 0 }) (code [0x76, 0x00]))
    (fun s => s.runState = .halted && s.pc = 0x201) = true := by decide
theorem test_V41_1 : runs (code [0x18, 0xFE]) (fun s => s.pc = 0x200) = true := by decide
theorem test_V41_2 : runs (code [0x18, 0x80]) (fun s => s.pc = 0x182) = true := by decide
theorem test_V41_3 : runs ((rom 0x7FF0 [0x18, 0x7F] ∘ fun s => { s with pc := 0x7FF0 }) (code []))
    (fun s => s.pc = 0x8071) = true := by decide
theorem test_V41_4 : runs ((flags 0) (code [0x20, 0xFB]))
    (fun s => s.pc = 0x1FD && s.stepCycles = 3) = true := by decide
theorem test_V41_5 : runs ((flags 0x80) (code [0x20, 0xFB]))
    (fun s => s.pc = 0x202 && s.stepCycles = 2) = true := by decide
theorem test_V41_6 : runs (code [0xC3, 0x50, 0x01]) (fun s => s.pc = 0x150) = true := by decide
theorem test_V41_7 : runs ((flags 0x10) (code [0xDA, 0x00, 0xC0])) (fun s => s.pc = 0xC000) = true := by decide
theorem test_V41_8 : runs ((flags 0) (code [0xDA, 0x00, 0xC0])) (fun s => s.pc = 0x203) = true := by decide
theorem test_V41_9 : runs ((regs fun r => r.setHL 0x4000) (code [0xE9])) (fun s => s.pc = 0x4000) = true := by decide
theorem test_V41_10 : runs (code [0xCD, 0x00, 0x03])
    (fun s => s.pc = 0x300 && s.regs.sp = 0xFFFC && byte s 0xFFFD = 2 && byte s 0xFFFC = 3) = true := by decide
theorem test_V41_11 : runs ((flags 0x80) (code [0xC4, 0x00, 0x03]))
    (fun s => s.pc = 0x203 && s.regs.sp = 0xFFFE) = true := by decide
theorem test_V41_12 : runs ((ram 0xFFFC 0x53 ∘ ram 0xFFFD 1 ∘ regs fun r => { r with sp := 0xFFFC }) (code [0xC9]))
    (fun s => s.pc = 0x153 && s.regs.sp = 0xFFFE) = true := by decide
theorem test_V41_13 : runs ((flags 0x10 ∘ ram 0xFFFC 0x53 ∘ ram 0xFFFD 1 ∘ regs fun r => { r with sp := 0xFFFC }) (code [0xD0]))
    (fun s => s.pc = 0x201 && s.regs.sp = 0xFFFC) = true := by decide
theorem test_V41_14 : runs ((ram 0xFFFC 0x53 ∘ ram 0xFFFD 1 ∘ regs fun r => { r with sp := 0xFFFC }) (code [0xD9]))
    (fun s => s.pc = 0x153 && s.ime) = true := by decide
theorem test_V41_15 : runs ((regs fun r => { r with sp := 0xD000 }) (code [0xCF]))
    (fun s => s.pc = 8 && s.regs.sp = 0xCFFE && byte s 0xCFFF = 2 && byte s 0xCFFE = 1) = true := by decide
theorem test_V41_16 : runs ((regs fun r => { r with sp := 0xD000 }) (code [0xFF]))
    (fun s => s.pc = 0x38 && byte s 0xCFFE = 1) = true := by decide
theorem test_V42_1 : runs ((regs fun r => { r with b := 0, c := 0x99 }) (code [0x41]))
    (fun s => s.regs.b = 0x99 && flagByte s = 0xB0) = true := by decide
theorem test_V42_2 : runs ((ram 0xC010 0x5A ∘ regs fun r => r.setHL 0xC010) (code [0x7E]))
    (fun s => acc s = 0x5A) = true := by decide
theorem test_V42_3 : runs ((regs fun r => { r.setHL 0xE010 with a := 0x33 }) (code [0x77]))
    (fun s => byte s 0xC010 = 0x33) = true := by decide
theorem test_V42_4 : runs ((regs fun r => { r.setHL 0x1234 with b := 0x99 }) (code [0x70]))
    (fun s => byte s 0x1234 = 0) = true := by decide
theorem test_V42_5 : runs ((regs fun r => r.setHL 0xFF80) (code [0x36, 0xAA]))
    (fun s => byte s 0xFF80 = 0xAA) = true := by decide
theorem test_V42_6 : runs ((regs fun r => { r.setHL 0xFFFF with a := 0x1F }) (code [0x22]))
    (fun s => s.ie = 0x1F && s.regs.hl = 0) = true := by decide
theorem test_V42_7 : runs ((regs fun r => { r.setHL 0xC000 with a := 0x44 }) (code [0x32]))
    (fun s => byte s 0xC000 = 0x44 && s.regs.hl = 0xBFFF) = true := by decide
theorem test_V42_8 : runs ((ram 0xC000 0x77 ∘ regs fun r => r.setHL 0xC000) (code [0x2A]))
    (fun s => acc s = 0x77 && s.regs.hl = 0xC001) = true := by decide
theorem test_V42_9 : runs ((regs fun r => { r with sp := 0xFFF8 }) (code [0x08, 0x00, 0xC1]))
    (fun s => byte s 0xC100 = 0xF8 && byte s 0xC101 = 0xFF) = true := by decide
theorem test_V42_10 : runs ((regs fun r => { r with sp := 0 }) (code [0xF8, 0xFF]))
    (fun s => s.regs.hl = 0xFFFF && flagByte s = 0) = true := by decide
theorem test_V42_11 : runs ((regs fun r => { r with sp := 0xFF }) (code [0xF8, 0xFF]))
    (fun s => s.regs.hl = 0xFE && flagByte s = 0x30) = true := by decide
theorem test_V42_13 : runs ((regs fun r => { r with a := 0x80 }) (code [0xEA, 0x40, 0xFF]))
    (fun s => s.lcdc = 0x80) = true := by decide
theorem test_V42_14 : runs ((rom 0x134 [0x50] ∘ regs fun r => r.setBC 0x134) (code [0x0A]))
    (fun s => acc s = 0x50) = true := by decide
theorem test_V20_2 : runs ((regs fun r => { r with a := 0x5C }) (code [0xEA, 0x00, 0xE0]))
    (fun s => byte s 0xC000 = 0x5C && byte s 0xE000 = 0x5C) = true := by decide
theorem test_V43_2 : runs ((ram 0xC000 0xFF ∘ regs fun r => { r with sp := 0xC000 }) (code [0xC1]))
    (fun s => s.regs.bc = 0xFF) = true := by decide
theorem test_V43_3 : runs ((ram 0xC000 0xFF ∘ ram 0xC001 0x12 ∘ regs fun r => { r with sp := 0xC000 }) (code [0xF1]))
    (fun s => acc s = 0x12 && flagByte s = 0xF0) = true := by decide
theorem test_V43_4 : runs ((ram 0xC000 0x0F ∘ ram 0xC001 0x12 ∘ regs fun r => { r with sp := 0xC000 }) (code [0xF1]))
    (fun s => acc s = 0x12 && flagByte s = 0) = true := by decide
theorem test_V43_6 : runs ((regs fun r => { r.setBC 0x1234 with sp := 1 }) (code [0xC5]))
    (fun s => s.ie = 0x34 && s.regs.sp = 0xFFFF) = true := by decide
theorem test_V44_1 : runs ((flags 0x10 ∘ regs fun r => { r with a := 0xF }) (code [0x3C]))
    (fun s => acc s = 0x10 && flagByte s = 0x30) = true := by decide
theorem test_V44_2 : runs ((flags 0 ∘ regs fun r => { r with a := 0xFF }) (code [0x3C]))
    (fun s => acc s = 0 && flagByte s = 0xA0) = true := by decide
theorem test_V44_3 : runs ((flags 0 ∘ regs fun r => { r with b := 1 }) (code [0x05]))
    (fun s => s.regs.b = 0 && flagByte s = 0xC0) = true := by decide
theorem test_V44_4 : runs ((flags 0x10 ∘ regs fun r => { r with b := 0 }) (code [0x05]))
    (fun s => s.regs.b = 0xFF && flagByte s = 0x70) = true := by decide
theorem test_V44_6 : runs ((flags 0 ∘ ram 0xC000 0xFF ∘ regs fun r => r.setHL 0xC000) (code [0x34]))
    (fun s => byte s 0xC000 = 0 && flagByte s = 0xA0) = true := by decide
theorem test_V44_7 : runs ((flags 0 ∘ ram 0xC000 0x10 ∘ regs fun r => r.setHL 0xC000) (code [0x35]))
    (fun s => byte s 0xC000 = 0xF && flagByte s = 0x60) = true := by decide
theorem test_V44_8 : runs ((regs fun r => r.setDE 0xFF) (code [0x13]))
    (fun s => s.regs.de = 0x100 && flagByte s = 0xB0) = true := by decide
theorem test_V44_9 : runs ((flags 0 ∘ regs fun r => r.setBC 0) (code [0x0B]))
    (fun s => s.regs.bc = 0xFFFF && flagByte s = 0) = true := by decide
theorem test_V44_10 : runs ((regs fun r => { r with sp := 0xFFFF }) (code [0x33]))
    (fun s => s.regs.sp = 0) = true := by decide
theorem test_V45_1 : runs ((regs fun r => { r with a := 0xF, b := 1 }) (code [0x80]))
    (fun s => acc s = 0x10 && flagByte s = 0x20) = true := by decide
theorem test_V45_2 : runs ((regs fun r => { r with a := 0x3A }) (code [0xC6, 0xC6]))
    (fun s => acc s = 0 && flagByte s = 0xB0) = true := by decide
theorem test_V45_3 : runs ((flags 0x10 ∘ regs fun r => { r with a := 0xE1 }) (code [0xCE, 0x0F]))
    (fun s => acc s = 0xF1 && flagByte s = 0x20) = true := by decide
theorem test_V45_4 : runs ((flags 0x10 ∘ regs fun r => { r with a := 0xFF }) (code [0xCE, 0x00]))
    (fun s => acc s = 0 && flagByte s = 0xB0) = true := by decide
theorem test_V45_5 : runs ((regs fun r => { r with a := 0x3E }) (code [0xD6, 0x0F]))
    (fun s => acc s = 0x2F && flagByte s = 0x60) = true := by decide
theorem test_V45_6 : runs ((regs fun r => { r with a := 0x3E }) (code [0xD6, 0x40]))
    (fun s => acc s = 0xFE && flagByte s = 0x50) = true := by decide
theorem test_V45_7 : runs ((regs fun r => { r with a := 0x3E }) (code [0x97]))
    (fun s => acc s = 0 && flagByte s = 0xC0) = true := by decide
theorem test_V45_8 : runs ((flags 0x10 ∘ regs fun r => { r with a := 0x3B }) (code [0xDE, 0x2A]))
    (fun s => acc s = 0x10 && flagByte s = 0x40) = true := by decide
theorem test_V45_9 : runs ((flags 0x10 ∘ regs fun r => { r with a := 0x3B }) (code [0xDE, 0x4F]))
    (fun s => acc s = 0xEB && flagByte s = 0x70) = true := by decide
theorem test_V45_11 : runs ((flags 0x10 ∘ regs fun r => { r with a := 0x42 }) (code [0x9F]))
    (fun s => acc s = 0xFF && flagByte s = 0x70) = true := by decide
theorem test_V45_12 : runs ((regs fun r => { r with a := 0x5A }) (code [0xE6, 0x3F]))
    (fun s => acc s = 0x1A && flagByte s = 0x20) = true := by decide
theorem test_V45_13 : runs ((regs fun r => { r with a := 0x5A }) (code [0xE6, 0x00]))
    (fun s => acc s = 0 && flagByte s = 0xA0) = true := by decide
theorem test_V45_14 : runs ((regs fun r => { r with a := 0x5A }) (code [0xEE, 0xFF]))
    (fun s => acc s = 0xA5 && flagByte s = 0) = true := by decide
theorem test_V45_15 : runs ((flags 0x70 ∘ regs fun r => { r with a := 0x5A }) (code [0xAF]))
    (fun s => acc s = 0 && flagByte s = 0x80) = true := by decide
theorem test_V45_16 : runs ((flags 0x10 ∘ regs fun r => { r with a := 0x5A }) (code [0xF6, 0x0F]))
    (fun s => acc s = 0x5F && flagByte s = 0) = true := by decide
theorem test_V45_17 : runs ((regs fun r => { r with a := 0x3C }) (code [0xFE, 0x2F]))
    (fun s => acc s = 0x3C && flagByte s = 0x60) = true := by decide
theorem test_V45_18 : runs ((regs fun r => { r with a := 0x3C }) (code [0xFE, 0x3C]))
    (fun s => acc s = 0x3C && flagByte s = 0xC0) = true := by decide
theorem test_V45_20 : runs ((flags 0x80 ∘ regs fun r => (r.setHL 0x8A23).setBC 0x0605) (code [0x09]))
    (fun s => s.regs.hl = 0x9028 && flagByte s = 0xA0) = true := by decide
theorem test_V45_21 : runs ((flags 0 ∘ regs fun r => (r.setHL 0x8A23)) (code [0x29]))
    (fun s => s.regs.hl = 0x1446 && flagByte s = 0x30) = true := by decide
theorem test_V45_22 : runs ((flags 0x80 ∘ regs fun r => { r.setHL 0xFFFF with sp := 1 }) (code [0x39]))
    (fun s => s.regs.hl = 0 && flagByte s = 0xB0) = true := by decide
theorem test_V45_23 : runs ((regs fun r => { r with sp := 0xFFF8 }) (code [0xE8, 0x02]))
    (fun s => s.regs.sp = 0xFFFA && flagByte s = 0) = true := by decide
theorem test_V45_24 : runs ((regs fun r => { r with sp := 0xFF }) (code [0xE8, 0xFF]))
    (fun s => s.regs.sp = 0xFE && flagByte s = 0x30) = true := by decide
theorem test_V45_26 : runs ((ram 0xC000 0xFF ∘ regs fun r => { r.setHL 0xC000 with a := 1 }) (code [0x86]))
    (fun s => acc s = 0 && flagByte s = 0xB0) = true := by decide
theorem test_V46_1 : runs ((regs fun r => { r with a := 0x11 }) (code [0xE0, 0x80]))
    (fun s => byte s 0xFF80 = 0x11) = true := by decide
theorem test_V46_2 : runs ((regs fun r => { r with a := 0x11, c := 0x80 }) (code [0xE2]))
    (fun s => byte s 0xFF80 = 0x11) = true := by decide
theorem test_V46_3 : runs ((fun s => { s with timer := { s.timer with tima := 0x33 } }) (code [0xF0, 0x05]))
    (fun s => acc s = 0x33) = true := by decide
theorem test_V46_4 : runs (((fun s => { s with timer := { s.timer with tma := 0x77 } }) ∘ regs fun r => { r with c := 6 }) (code [0xF2]))
    (fun s => acc s = 0x77) = true := by decide
theorem test_V46_5 : runs (code [0xE0, 0x04]) (fun s => s.timer.divCounter = 0xC) = true := by decide
theorem test_V47_1 : runs ((flags 0 ∘ regs fun r => { r with b := 0x85 }) (code [0xCB, 0x00]))
    (fun s => s.regs.b = 0x0B && flagByte s = 0x10) = true := by decide
theorem test_V47_2 : runs ((regs fun r => { r with c := 0x1 }) (code [0xCB, 0x09]))
    (fun s => s.regs.c = 0x80 && flagByte s = 0x10) = true := by decide
theorem test_V47_3 : runs ((flags 0 ∘ regs fun r => { r with l := 0x80 }) (code [0xCB, 0x15]))
    (fun s => s.regs.l = 0x0 && flagByte s = 0x90) = true := by decide
theorem test_V47_4 : runs ((flags 0x10 ∘ regs fun r => { r with a := 1 }) (code [0xCB, 0x1F]))
    (fun s => acc s = 0x80 && flagByte s = 0x10) = true := by decide
theorem test_V47_5 : runs ((regs fun r => { r with d := 0xFF }) (code [0xCB, 0x22]))
    (fun s => s.regs.d = 0xFE && flagByte s = 0x10) = true := by decide
theorem test_V47_6 : runs ((regs fun r => { r with a := 0x8A }) (code [0xCB, 0x2F]))
    (fun s => acc s = 0xC5 && flagByte s = 0x0) = true := by decide
theorem test_V47_7 : runs ((flags 0x10 ∘ regs fun r => { r with a := 0xF1 }) (code [0xCB, 0x37]))
    (fun s => acc s = 0x1F && flagByte s = 0x0) = true := by decide
theorem test_V47_8 : runs ((regs fun r => { r with a := 0xFF }) (code [0xCB, 0x3F]))
    (fun s => acc s = 0x7F && flagByte s = 0x10) = true := by decide
theorem test_V47_9 : runs ((regs fun r => r.setHL 0xC000) (code [0xCB, 0x06]))
    (fun s => byte s 0xC000 = 0 && flagByte s = 0x80) = true := by decide
theorem test_V47_10 : runs ((flags 0 ∘ rom 0x100 [0x80] ∘ regs fun r => r.setHL 0x100) (code [0xCB, 0x16]))
    (fun s => byte s 0x100 = 0x80 && flagByte s = 0x90) = true := by decide
theorem test_V47_11 : runs ((regs fun r => { r with a := 1 }) (code [0xCB, 0x3F]))
    (fun s => acc s = 0x0 && flagByte s = 0x90) = true := by decide
theorem test_V48_1 : runs ((flags 0x10 ∘ regs fun r => { r with a := 0x80 }) (code [0xCB, 0x7F]))
    (fun s => flagByte s = 0x30) = true := by decide
theorem test_V48_2 : runs ((flags 0x10 ∘ regs fun r => { r with a := 0x80 }) (code [0xCB, 0x47]))
    (fun s => flagByte s = 0xB0) = true := by decide
theorem test_V48_3 : runs ((flags 0 ∘ ram 0xC000 0xFE ∘ regs fun r => r.setHL 0xC000) (code [0xCB, 0x46]))
    (fun s => flagByte s = 0xA0 && byte s 0xC000 = 0xFE) = true := by decide
theorem test_V48_4 : runs ((flags 0xF0 ∘ regs fun r => { r with a := 0xFF }) (code [0xCB, 0x87]))
    (fun s => acc s = 0xFE && flagByte s = 0xF0) = true := by decide
theorem test_V48_5 : runs ((flags 0 ∘ regs fun r => { r with b := 0 }) (code [0xCB, 0xF8]))
    (fun s => s.regs.b = 0x80 && flagByte s = 0) = true := by decide
theorem test_V48_6 : runs ((regs fun r => r.setHL 0xC000) (code [0xCB, 0xFE]))
    (fun s => byte s 0xC000 = 0x80) = true := by decide
theorem test_V49_1 : runs ((flags 0 ∘ regs fun r => { r with a := 0x85 }) (code [0x07]))
    (fun s => acc s = 0xB && flagByte s = 0x10) = true := by decide
theorem test_V49_2 : runs ((flags 0x80 ∘ regs fun r => { r with a := 0 }) (code [0x07]))
    (fun s => acc s = 0 && flagByte s = 0) = true := by decide
theorem test_V49_3 : runs ((regs fun r => { r with a := 0x3B }) (code [0x0F]))
    (fun s => acc s = 0x9D && flagByte s = 0x10) = true := by decide
theorem test_V49_4 : runs ((flags 0x10 ∘ regs fun r => { r with a := 0x95 }) (code [0x17]))
    (fun s => acc s = 0x2B && flagByte s = 0x10) = true := by decide
theorem test_V49_5 : runs ((flags 0 ∘ regs fun r => { r with a := 0x80 }) (code [0x17]))
    (fun s => acc s = 0 && flagByte s = 0x10) = true := by decide
theorem test_V49_6 : runs ((flags 0 ∘ regs fun r => { r with a := 0x81 }) (code [0x1F]))
    (fun s => acc s = 0x40 && flagByte s = 0x10) = true := by decide
theorem test_V49_7 : runs ((flags 0 ∘ regs fun r => { r with a := 0x3C }) (code [0x27]))
    (fun s => acc s = 0x42 && flagByte s = 0) = true := by decide
theorem test_V49_8 : runs ((flags 0 ∘ regs fun r => { r with a := 0x9A }) (code [0x27]))
    (fun s => acc s = 0 && flagByte s = 0x90) = true := by decide
theorem test_V49_12 : runs ((flags 0 ∘ regs fun r => { r with a := 0x35 }) (code [0x2F]))
    (fun s => acc s = 0xCA && flagByte s = 0x60) = true := by decide
theorem test_V49_13 : runs ((flags 0xE0) (code [0x37])) (fun s => flagByte s = 0x90) = true := by decide
theorem test_V49_14 : runs ((flags 0x70) (code [0x3F])) (fun s => flagByte s = 0) = true := by decide
theorem test_V49_15 : runs ((flags 0x80) (code [0x3F])) (fun s => flagByte s = 0x90) = true := by decide
theorem test_V30_1 : stops (code [0xD3])
    (fun s => s.pc = 0x201 && s.faults = [.illegalOpcode false 0xD3 0x200]) = true := by decide
theorem test_V30_3 : runs ((ram 0xFF80 0 ∘ fun s => { s with pc := 0xFF80 }) (code []))
    (fun s => s.pc = 0xFF81) = true := by decide
theorem test_V30_4 : runs ((rom 0x7FFF [0x3E] ∘ fun s => { s with pc := 0x7FFF }) (code []))
    (fun s => s.pc = 0x8001 && acc s = 0) = true := by decide
theorem test_V60_1 : dispatches (((fun s => { s with ime := true, ie := 5, iflag := 5 }) ∘ regs fun r => { r with sp := 0xD000 }) (code [0x00]))
    (fun s => s.pc = 0x40 && s.iflag = 4 && !s.ime && s.regs.sp = 0xCFFE) = true := by decide
theorem test_V60_1b : dispatches (((fun s => { s with ime := true, ie := 5, iflag := 5 }) ∘ regs fun r => { r with sp := 0xD000 }) (code [0x00]))
    (fun s => byte s 0xCFFF = 2 && byte s 0xCFFE = 0) = true := by decide
theorem test_V60_2 : dispatches (((fun s => { s with ime := true, ie := 0x1F, iflag := 0x10 }) ∘ regs fun r => { r with sp := 0xD000 }) (code [0x00]))
    (fun s => s.pc = 0x60 && s.iflag = 0) = true := by decide
theorem test_V60_3 : stops (((fun s => { s with ime := true, ie := 1, iflag := 1 }) ∘ regs fun r => { r with sp := 0x1 }) (code [0x00]))
    (fun s => s.pc = 0x200 && s.faults = [.dispatchPushToIE 1] && s.ime && s.regs.sp = 1) = true := by decide
theorem test_V60_4 : runs ((fun s => { s with ime := false, ie := 1, iflag := 1 }) (code [0x00]))
    (fun s => s.pc = 0x201) = true := by decide

/-! ## Witnesses: for each statement with hypotheses, a state and operands that meet them, for every clause and at its
boundaries -/

/-- BC, DE and HL point into work RAM, SP to its end; everything else as after reset. -/
def wram : State := { postBoot with
  regs := ⟨0x12, ⟨true, false, true, false⟩, 0xC1, 0x20, 0xC1, 0x30, 0xC0, 0x10, 0xD000⟩ }

/-- `wram` with HL at `a`. -/
def hlAt (a : Word) : State := wram.setHL a

/-- `wram` with SP at `a`. -/
def spAt (a : Word) : State := wram.setSP a

/-- The parameters with another echo policy. -/
def policy (p : EchoPolicy) (s : State) : State := { s with params := { s.params with echoPolicy := p } }

/-- The parameters with opcodes refused. -/
def refusing (l : List (Bool × Byte)) (s : State) : State := { s with params := { s.params with refusedOpcodes := l } }

/-! ### Encoding and the step -/

theorem witness_DecodeEncode : Instr.wellFormed (.ld_bc_d16 0xC134) = true := by decide
theorem witness_EncodeDecode : decode [0x01, 0x34, 0xC1, 0x76] = .ok (.ld_bc_d16 0xC134, [0x76]) := rfl

theorem witness_StepRunsDecoded_operands :
    (code [0x01, 0x34, 0xC1]).stepKind = .execute ∧ (code [0x01, 0x34, 0xC1]).haltBug = false ∧
    (code [0x01, 0x34, 0xC1]).canReads 3 0x0200 = true ∧
    (code [0x01, 0x34, 0xC1]).refuses false 0x01 = false := by decide
theorem witness_StepRunsDecoded_operands_decode :
    decode ((code [0x01, 0x34, 0xC1]).bytesAt 3 0x0200) = .ok (.ld_bc_d16 0xC134, []) := rfl
theorem witness_StepRunsDecoded_extended :
    (code [0xCB, 0x37]).stepKind = .execute ∧ (code [0xCB, 0x37]).canReads 2 0x0200 = true ∧
    (code [0xCB, 0x37]).refuses true 0x37 = false := by decide
theorem witness_StepRunsDecoded_extended_decode :
    decode ((code [0xCB, 0x37]).bytesAt 3 0x0200) = .ok (.swap_a, [0x00]) := rfl
theorem witness_StepRunsDecoded_absent :
    (code [0xFD]).stepKind = .execute ∧ (descriptor .illegalFD).extended = false ∧
    isAbsent (descriptor .illegalFD).opcode = true ∧ (code [0xFD]).canReads 1 0x0200 = true := by decide
theorem witness_StepRunsDecoded_absent_decode :
    decode ((code [0xFD]).bytesAt 3 0x0200) = .ok (.illegalFD, [0x00, 0x00]) := rfl

/-- LD A,d8 under the HALT bug: its operand is its own opcode byte. -/
theorem witness_HaltBugStep :
    State.stepKind { code [0x3E] with haltBug := true } = .execute ∧ (code [0x3E]).peek 0x0200 = 0x3E ∧
    State.canReads { code [0x3E] with haltBug := true } ((encode (.ld_a_d8 0x3E)).length - 1) 0x0200 = true ∧
    State.canRead { code [0x3E] with haltBug := true } 0x0200 = true ∧ (code [0x3E]).refuses false 0x3E = false := by decide
theorem witness_HaltBugStep_decode :
    decode (State.peek { code [0x3E] with haltBug := true } 0x0200 ::
      (State.afterRead { code [0x3E] with haltBug := true } 0x0200).bytesAt 2 0x0200) = .ok (.ld_a_d8 0x3E, [0x00]) := rfl
theorem test_halt_bug_operand : runs { code [0x3E] with haltBug := true }
    (fun s => s.pc = 0x0201 && acc s = 0x3E && !s.haltBug) = true := by decide

theorem witness_AbsentOpcodeFaults_first : (code [0xD3]).stepKind = .execute ∧ (code [0xD3]).canRead 0x0200 = true ∧
    (code [0xD3]).peek 0x0200 ∈ absentRows.map Prod.fst := by decide
theorem witness_AbsentOpcodeFaults_last : (code [0xFD]).stepKind = .execute ∧ (code [0xFD]).canRead 0x0200 = true ∧
    (code [0xFD]).peek 0x0200 ∈ absentRows.map Prod.fst := by decide
theorem witness_RefusedOpcodeFaults_base :
    (refusing [(false, 0x00)] (code [0x00])).stepKind = .execute ∧
    (refusing [(false, 0x00)] (code [0x00])).canRead 0x0200 = true ∧ (code [0x00]).peek 0x0200 ≠ 0xCB ∧
    isAbsent ((code [0x00]).peek 0x0200) = false ∧
    (false, 0x00) ∈ (refusing [(false, 0x00)] (code [0x00])).params.refusedOpcodes := by decide
theorem witness_RefusedOpcodeFaults_extended :
    (refusing [(true, 0x37)] (code [0xCB, 0x37])).stepKind = .execute ∧
    (refusing [(true, 0x37)] (code [0xCB, 0x37])).haltBug = false ∧
    (refusing [(true, 0x37)] (code [0xCB, 0x37])).canReads 2 0x0200 = true ∧
    (refusing [(true, 0x37)] (code [0xCB, 0x37])).bytesAt 2 0x0200 = [0xCB, 0x37] ∧
    (true, 0x37) ∈ (refusing [(true, 0x37)] (code [0xCB, 0x37])).params.refusedOpcodes := by decide
theorem test_refused : stops (refusing [(true, 0x37)] (code [0xCB, 0x37]))
    (fun s => s.faults = [.refusedOpcode true 0x37 0x0200] && s.pc = 0x0202) = true := by decide

theorem witness_StepsWithoutInstruction_faulted :
    State.faults { wram with faults := [.unmodelledDevice 0xFF46] } ≠ [] := by decide
theorem witness_StepsWithoutInstruction_stopped :
    State.faults { wram with runState := .stopped } = [] ∧
    State.runState { wram with runState := .stopped } = .stopped := by decide
theorem witness_StepsWithoutInstruction_halted :
    State.faults { wram with runState := .halted } = [] ∧
    State.runState { wram with runState := .halted } = .halted := by decide
theorem test_halted_stays : runs { wram with runState := .halted, ie := 0x04 }
    (fun s => s.runState = .halted && s.pc = 0x0100 && s.timer.divCounter = 0xABD0) = true := by decide
theorem test_halted_wakes : runs { wram with runState := .halted, ie := 0x01 }
    (fun s => s.runState = .running && s.pc = 0x0100 && s.iflag = 0x01) = true := by decide

/-- The lowest and the highest request, each with higher ones pending or none. -/
def interrupted (ie iflag : Nat) (sp : Word) : State :=
  { spAt sp with ime := true, ie := BitVec.ofNat 8 ie, iflag := BitVec.ofNat 5 iflag }
theorem witness_InterruptDispatch_lowest :
    (interrupted 0x1F 0x1F 0xD000).faults = [] ∧ (interrupted 0x1F 0x1F 0xD000).runState = .running ∧
    (interrupted 0x1F 0x1F 0xD000).ime = true ∧
    ((interrupted 0x1F 0x1F 0xD000).ie.getLsbD 0 && (interrupted 0x1F 0x1F 0xD000).iflag.getLsbD 0) = true ∧
    (interrupted 0x1F 0x1F 0xD000).canWrite 0xCFFF = true ∧ (interrupted 0x1F 0x1F 0xD000).canWrite 0xCFFE = true := by
  decide
theorem witness_InterruptDispatch_highest :
    (interrupted 0x10 0x1F 0x0002).ime = true ∧
    ((interrupted 0x10 0x1F 0x0002).ie.getLsbD 4 && (interrupted 0x10 0x1F 0x0002).iflag.getLsbD 4) = true ∧
    (∀ j : Fin 5, j < 4 → ((interrupted 0x10 0x1F 0x0002).ie.getLsbD j.val &&
      (interrupted 0x10 0x1F 0x0002).iflag.getLsbD j.val) = false) ∧
    (interrupted 0x10 0x1F 0x0002).canWrite 0x0001 = true ∧ (interrupted 0x10 0x1F 0x0002).canWrite 0x0000 = true := by
  decide
theorem witness_InterruptDispatch_fault_0 : (interrupted 0x01 0x01 0x0000).ime = true ∧
    ((interrupted 0x01 0x01 0x0000).ie.getLsbD 0 && (interrupted 0x01 0x01 0x0000).iflag.getLsbD 0) = true ∧
    (interrupted 0x01 0x01 0x0000).regs.sp = 0x0000 := by decide
theorem witness_InterruptDispatch_fault_1 : (interrupted 0x01 0x01 0x0001).ime = true ∧
    ((interrupted 0x01 0x01 0x0001).ie.getLsbD 0 && (interrupted 0x01 0x01 0x0001).iflag.getLsbD 0) = true ∧
    (interrupted 0x01 0x01 0x0001).regs.sp = 0x0001 := by decide

theorem witness_EiDelay_ei : (code [0xFB]).stepKind = .execute ∧ (code [0xFB]).haltBug = false ∧
    (code [0xFB]).canRead 0x0200 = true ∧ (code [0xFB]).params.refusedOpcodes = [] ∧ (code [0xFB]).peek 0x0200 = 0xFB ∧
    (code [0xFB]).eiPending = false := by decide
/-- The instruction after EI, whichever: here LD BC,d16. -/
theorem witness_EiDelay_any : State.stepKind { code [0x01, 0x34, 0xC1] with eiPending := true } = .execute ∧
    State.haltBug { code [0x01, 0x34, 0xC1] with eiPending := true } = false ∧
    runs { code [0x01, 0x34, 0xC1] with eiPending := true } (fun t => t.ime && !t.eiPending) = true := by decide
theorem witness_EiDelay_any_decode :
    decode (State.bytesAt 3 0x0200 { code [0x01, 0x34, 0xC1] with eiPending := true }) = .ok (.ld_bc_d16 0xC134, []) := rfl
/-- No EI pending: EI, and an instruction that touches neither bit. -/
theorem witness_EiDelay_none_pending : runs (code [0xFB]) (fun t => !t.ime && t.eiPending) = true ∧
    runs (code [0x01, 0x34, 0xC1]) (fun t => !t.ime && !t.eiPending) = true ∧ (code [0xFB]).eiPending = false := by decide
theorem witness_EiDelay_ei_ei : State.stepKind { code [0xFB] with eiPending := true } = .execute ∧
    State.peek { code [0xFB] with eiPending := true } 0x0200 = 0xFB ∧
    runs { code [0xFB] with eiPending := true } (fun t => t.ime && !t.eiPending) = true := by decide
theorem witness_EiDelay_reti : decode ((code [0xD9]).bytesAt 3 0x0200) = .ok (.reti, [0x00, 0x00]) ∧
    runs (code [0xD9]) (fun t => t.ime && !t.eiPending) = true := ⟨rfl, by decide⟩
theorem witness_EiDelay_nop : State.stepKind { code [0x00] with eiPending := true } = .execute ∧
    State.peek { code [0x00] with eiPending := true } 0x0200 = 0x00 ∧
    State.eiPending { code [0x00] with eiPending := true } = true := by decide
theorem witness_EiDelay_di : State.stepKind { code [0xF3] with eiPending := true } = .execute ∧
    State.peek { code [0xF3] with eiPending := true } 0x0200 = 0xF3 := by decide

/-! ### Reset and invariants -/

theorem witness_ResetValues_boot : Launch.default.startMode = .boot := by decide
theorem witness_ResetValues_postBoot : Launch.startMode { Launch.default with startMode := .postBoot } = .postBoot := by
  decide
theorem witness_ResetValues_io : (0xFF47 : Nat) ≠ 0xFF00 ∧ (0xFF47 : Nat) ≠ 0xFF41 := by decide
theorem witness_LaunchInvariants : Launch.wf { Launch.default with
    startMode := .postBoot, initMem := [(0x8000, 1), (0xDFFF, 2), (0xFE9F, 3), (0xFFFE, 4)], bootRom := [(0xFF, 5)] } = true := by
  decide
theorem witness_StepKeepsMemory : (code [0x77]).memoryWf = true ∧ runs (code [0x77]) (fun _ => true) = true := by decide
theorem witness_StepKeepsDevices : (code [0x77]).devicesWf = true ∧ runs (code [0x77]) (fun _ => true) = true := by decide
theorem witness_StepKeepsHaltBug : State.haltBugWf { code [0x76] with haltBug := true } = true ∧
    runs { code [0x76] with haltBug := true } (fun _ => true) = true := by decide
theorem witness_StepKeepsConstants : runs (code [0xEA, 0x50, 0xFF]) (fun s => !s.bootRomMapped) = true ∧
    (code [0xEA, 0x50, 0xFF]).bootRomMapped = false := by decide
theorem witness_FaultEndsStep : (code [0xE0, 0x46]).faults = [] ∧ (code [0xE0, 0x46]).runState ≠ .stopped ∧
    stops (code [0xE0, 0x46]) (fun s => s.faults = [.unmodelledDevice 0xFF46]) = true := by decide

/-! ### Memory -/

theorem test_region_bounds :
    [0x0000, 0x3FFF, 0x4000, 0x7FFF, 0x8000, 0x9FFF, 0xA000, 0xBFFF, 0xC000, 0xCFFF, 0xD000, 0xDFFF, 0xE000, 0xFDFF, 0xFE00,
      0xFEFF, 0xFF00, 0xFF7F, 0xFF80, 0xFFFE, 0xFFFF].map region =
    [.cartFixed, .cartFixed, .cartSwitchable, .cartSwitchable, .vram, .vram, .cartRam, .cartRam, .wramFixed, .wramFixed,
      .wramSwitchable, .wramSwitchable, .echo, .echo, .oam, .oam, .io, .io, .hram, .hram, .ie] := by decide
theorem witness_RomAndBootOverlay : (0x7FFF : Word).toNat < 0x8000 ∧ (0x0000 : Word).toNat < 0x8000 := by decide
/-- R64, R65 at the overlay's last byte and the one after it. -/
theorem test_overlay : [0x00FF, 0x0100].map
    (State.peek { State.reset with bootRom := [(0x00FF, 0xB0)], cartRom := [(0x00FF, 0xC0), (0x0100, 0xC1)] }) =
    [0xB0, 0xC1] := by decide
theorem witness_ReadAfterWrite :
    [0x8000, 0x9FFF, 0xA000, 0xBFFF, 0xC000, 0xDFFF, 0xE000, 0xFDFF, 0xFE00, 0xFE9F, 0xFF01, 0xFF05, 0xFF06, 0xFF40, 0xFF42,
      0xFF70, 0xFF80, 0xFFFE, 0xFFFF].all wram.readsBack = true := by decide
theorem test_not_read_back :
    [0x0000, 0x7FFF, 0xFEA0, 0xFEFF, 0xFF00, 0xFF04, 0xFF07, 0xFF0F, 0xFF41, 0xFF44, 0xFF46, 0xFF50, 0xFF55, 0xFF7F].all
      (fun a => !wram.readsBack a) = true := by decide
theorem witness_AccessFrame_read : ∃ v t, memRead 0xFF04 wram = .next (v, t) := ⟨_, _, rfl⟩
theorem witness_AccessFrame_write : ∃ t, memWrite 0xFF80 0x01 wram = .next t := ⟨_, rfl⟩
theorem witness_EchoPolicies_bounds : 0xE000 ≤ (0xE000 : Word).toNat ∧ (0xE000 : Word).toNat ≤ 0xFDFF ∧
    0xE000 ≤ (0xFDFF : Word).toNat ∧ (0xFDFF : Word).toNat ≤ 0xFDFF := by decide
theorem witness_EchoPolicies_each : (policy .mirror wram).params.echoPolicy = .mirror ∧
    (policy .flat wram).params.echoPolicy = .flat ∧ (policy .fault wram).params.echoPolicy = .fault := by decide
/-- The first and last address of every range. -/
theorem witness_UnusableLocations : [0xFEA0, 0xFEFF, 0xFF03, 0xFF08, 0xFF0E, 0xFF27, 0xFF2F, 0xFF4C, 0xFF4E, 0xFF56, 0xFF67,
    0xFF6A, 0xFF6F, 0xFF71, 0xFF7F].all (fun a : Nat => decide (
      0xFEA0 ≤ a ∧ a ≤ 0xFEFF ∨ a = 0xFF03 ∨ 0xFF08 ≤ a ∧ a ≤ 0xFF0E ∨ 0xFF27 ≤ a ∧ a ≤ 0xFF2F ∨ 0xFF4C ≤ a ∧ a ≤ 0xFF4E ∨
      0xFF56 ≤ a ∧ a ≤ 0xFF67 ∨ 0xFF6A ≤ a ∧ a ≤ 0xFF6F ∨ 0xFF71 ≤ a ∧ a ≤ 0xFF7F)) = true := by decide
theorem witness_DmaRegisters : [0xFF46, 0xFF51, 0xFF55].all (fun a : Nat => decide (
    a = 0xFF46 ∨ 0xFF51 ≤ a ∧ a ≤ 0xFF55)) = true := by decide
/-- R435 on both sides of the third invocation of a window. -/
def window (k : Fin 5) : State := { wram with timer := { wram.timer with
  ovfPending := true, ovfStep := k, reloadArmed := true, irqArmed := true } }
theorem witness_TimerRegisters_idle : wram.timer.ovfPending = false := by decide
theorem witness_TimerRegisters_early : (window 2).timer.ovfPending = true ∧ (window 2).timer.ovfStep.val < 3 := by decide
theorem witness_TimerRegisters_late : (window 3).timer.ovfPending = true ∧ 3 ≤ (window 3).timer.ovfStep.val := by decide
theorem test_bus_end : (match busRead 0xFFFF 1 wram with
    | .ok (.next (bytes, _)) => decide (bytes = [0x00])
    | _ => false) = true ∧
    (match busRead 0xFFFF 2 wram with
    | .outOfRange => true
    | _ => false) = true := by decide

/-! ### Control -/

theorem witness_NopStopHaltDiEi_halted : wram.ie.extractLsb' 0 5 &&& wram.iflag = 0 := by decide
theorem witness_NopStopHaltDiEi_pending :
    (State.ie { wram with ie := 0x01, ime := true }).extractLsb' 0 5 &&& wram.iflag ≠ 0 ∧
    State.ime { wram with ie := 0x01, ime := true } = true := by decide
theorem witness_NopStopHaltDiEi_bug : (State.ie { wram with ie := 0x01 }).extractLsb' 0 5 &&& wram.iflag ≠ 0 ∧
    wram.ime = false ∧ wram.eiPending = false := by decide
theorem witness_NopStopHaltDiEi_fault :
    (State.ie { wram with ie := 0x01, eiPending := true }).extractLsb' 0 5 &&& wram.iflag ≠ 0 ∧
    State.ime { wram with ie := 0x01, eiPending := true } = false ∧
    State.eiPending { wram with ie := 0x01, eiPending := true } = true := by decide
theorem witness_conditions : condHolds .z wram.regs.f = true ∧ condHolds .nz wram.regs.f = false ∧
    condHolds .nc wram.regs.f = true ∧ condHolds .c wram.regs.f = false := by decide
/-- CALL, RST and PUSH: the slots of a stack in work RAM, and one that wraps onto IE. -/
theorem witness_push : wram.canWrite (wram.regs.sp - 1) = true ∧ wram.canWrite (wram.regs.sp - 2) = true := by decide
theorem witness_push_wraps : (spAt 0x0001).canWrite 0x0000 = true ∧ (spAt 0x0001).canWrite 0xFFFF = true := by decide
/-- RET, RETI and POP. -/
theorem witness_pop : wram.canRead wram.regs.sp = true ∧ wram.canRead (wram.regs.sp + 1) = true := by decide
theorem witness_pop_wraps : (spAt 0xFFFF).canRead 0xFFFF = true ∧ (spAt 0xFFFF).canRead 0x0000 = true := by decide

/-! ### Loads, stores, arithmetic -/

theorem witness_LoadByte_slot : (Operand8.atHL = .atHL → Operand8.reg .b ≠ .atHL) := by decide
/-- The hypotheses of every (HL), (BC) and (DE) form. -/
theorem witness_indirect : wram.canRead wram.regs.hl = true ∧ wram.canWrite wram.regs.hl = true ∧
    wram.canRead wram.regs.bc = true ∧ wram.canWrite wram.regs.bc = true ∧ wram.canRead wram.regs.de = true ∧
    wram.canWrite wram.regs.de = true ∧ wram.canReadOperand .atHL = true ∧ wram.canReadOperand (.reg .h) = true := by decide
theorem witness_AbsoluteAndPort : wram.canWrite 0xFFFF = true ∧ wram.canWrite (0xFFFF + 1) = true ∧
    wram.canRead 0xFEFF = true ∧ wram.canWrite (0xFF00 ||| (0x80 : Byte).setWidth 16) = true ∧
    wram.canWrite (0xFF00 ||| wram.regs.c.setWidth 16) = true := by decide
/-- Stores that fault: HL, BC, DE, an operand and C at a DMA register, HL at the edges of the echo region under FAULT. -/
theorem witness_LoadByte_faults : (∃ f, memWrite 0xFF46 ((hlAt 0xFF46).regs.get8 .b) (hlAt 0xFF46) = .fault f) ∧
    (∃ f, memWrite 0xFF51 0x00 (hlAt 0xFF51) = .fault f) ∧
    (∃ f, memWrite 0xE000 0x00 (policy .fault (hlAt 0xE000)) = .fault f) ∧
    ∃ f, memWrite 0xFDFF 0x00 (policy .fault (hlAt 0xFDFF)) = .fault f := ⟨⟨_, rfl⟩, ⟨_, rfl⟩, ⟨_, rfl⟩, _, rfl⟩
theorem witness_LoadIndirect_faults : ∀ k, ∃ s f, memWrite (indirectAddr k s.regs) s.regs.a s = .fault f := fun k => by
  cases k with
  | bc => exact ⟨wram.set16 .bc 0xFF55, _, rfl⟩
  | de => exact ⟨wram.set16 .de 0xFF55, _, rfl⟩
  | hli => exact ⟨hlAt 0xFF46, _, rfl⟩
  | hld => exact ⟨hlAt 0xFF46, _, rfl⟩
theorem witness_AbsoluteAndPort_faults : (∃ f, memWrite 0xFF55 (wram.regs.sp.extractLsb' 0 8) wram = .fault f) ∧
    (wram.canWrite 0xFF50 = true ∧ ∃ f,
      memWrite (0xFF50 + 1) (wram.regs.sp.extractLsb' 8 8) (wram.poke 0xFF50 (wram.regs.sp.extractLsb' 0 8)) = .fault f) ∧
    (∃ f, memWrite (0xFF00 ||| (0x46 : Byte).setWidth 16) wram.regs.a wram = .fault f) ∧
    ∃ f, memWrite (0xFF00 ||| (wram.set8 .c 0x46).regs.c.setWidth 16) wram.regs.a (wram.set8 .c 0x46) = .fault f :=
  ⟨⟨_, rfl⟩, ⟨by decide, _, rfl⟩, ⟨_, rfl⟩, _, rfl⟩
theorem witness_PushAndPop_faults : (∃ f, memWrite ((spAt 0xFF47).regs.sp - 1) 0xC1 ((spAt 0xFF47).setSP 0xFF46) = .fault f) ∧
    (spAt 0xFF57).canWrite ((spAt 0xFF57).regs.sp - 1) = true ∧
    ∃ f, memWrite ((spAt 0xFF57).regs.sp - 2) 0x20 (((spAt 0xFF57).poke 0xFF56 0xC1).setSP 0xFF55) = .fault f :=
  ⟨⟨_, rfl⟩, by decide, _, rfl⟩
/-- CALL, a taken CALL cc and RST whose first or second byte falls on a DMA register. -/
theorem witness_CallsAndRestarts_faults :
    (∃ f, memWrite ((spAt 0xFF47).regs.sp - 1) ((spAt 0xFF47).pc.extractLsb' 8 8)
      ((spAt 0xFF47).setSP ((spAt 0xFF47).regs.sp - 1)) = .fault f) ∧ condHolds .z (spAt 0xFF47).regs.f = true ∧
    (spAt 0xFF57).canWrite ((spAt 0xFF57).regs.sp - 1) = true ∧ condHolds .z (spAt 0xFF57).regs.f = true ∧
    ∃ f, memWrite ((spAt 0xFF57).regs.sp - 2) ((spAt 0xFF57).pc.extractLsb' 0 8)
      (((spAt 0xFF57).poke ((spAt 0xFF57).regs.sp - 1) ((spAt 0xFF57).pc.extractLsb' 8 8)).setSP
        ((spAt 0xFF57).regs.sp - 2)) = .fault f :=
  ⟨⟨_, rfl⟩, by decide, by decide, by decide, _, rfl⟩
/-- For the read-modify-write forms at (HL): IncDecByte, RotateShift, BitResSet. -/
theorem witness_modify_faults (v : Byte) : (∃ f, memWrite 0xFF46 v ((hlAt 0xFF46).afterRead 0xFF46) = .fault f) ∧
    ∃ f, memWrite 0xFDFF v ((policy .fault (hlAt 0xFDFF)).afterRead 0xFDFF) = .fault f := ⟨⟨_, rfl⟩, _, rfl⟩
theorem witness_PushAndPop_pair : R16Stk.bc ≠ .af ∧ R16Stk.hl ≠ .af := by decide
theorem witness_PushThenPop : wram.readsBack (wram.regs.sp - 1) = true ∧ wram.readsBack (wram.regs.sp - 2) = true := by
  decide
theorem witness_AluLaws : Flags.c ⟨true, false, true, false⟩ = false ∧ AluOp.or ≠ AluOp.and ∧
    Flags.c ⟨false, true, false, false⟩ = Flags.c ⟨true, false, true, false⟩ := by decide
theorem witness_DecimalAdjust : wram.regs.f.n = false ∧ (wram.setF ⟨false, true, false, false⟩).regs.f.n = true := by decide
theorem witness_PrefixRow : (code [0x06]).canRead 0x0200 = true ∧ (code [0x06]).refuses true 0x06 = false ∧
    (code [0x06]).canWrite (code [0x06]).regs.hl = true := by decide

/-! ### Frames: an instruction of every group answers a state -/

theorem witness_FrameByteForms (x : R8) : (∃ t, exec (rowLd8 (.reg x) (.reg .b)) wram = .next t) ∧
    (∃ t, exec (rowLdImm8 (.reg x) 0x01) wram = .next t) ∧ (∃ t, exec (rowInc8 (.reg x)) wram = .next t) ∧
    (∃ t, exec (rowDec8 (.reg x)) wram = .next t) := by
  cases x <;> exact ⟨⟨_, rfl⟩, ⟨_, rfl⟩, ⟨_, rfl⟩, ⟨_, rfl⟩⟩
theorem witness_FrameByteForms_bits (x : R8) : (∃ t, exec (rowRes 0 (.reg x)) wram = .next t) ∧
    (∃ t, exec (rowSet 7 (.reg x)) wram = .next t) ∧ (∃ t, exec (rowRot .rl (.reg x)) wram = .next t) ∧
    (∃ t, exec (rowBit 7 (.reg x)) wram = .next t) := by
  cases x <;> exact ⟨⟨_, rfl⟩, ⟨_, rfl⟩, ⟨_, rfl⟩, ⟨_, rfl⟩⟩
theorem witness_FrameByteForms_atHL : (∃ t, exec (rowLd8 .atHL (.reg .b)) wram = .next t) ∧
    (∃ t, exec (rowLdImm8 .atHL 0x01) wram = .next t) ∧ (∃ t, exec (rowRes 0 .atHL) wram = .next t) ∧
    (∃ t, exec (rowSet 7 .atHL) wram = .next t) ∧ (∃ t, exec (rowInc8 .atHL) wram = .next t) ∧
    (∃ t, exec (rowDec8 .atHL) wram = .next t) ∧ (∃ t, exec (rowRot .swap .atHL) wram = .next t) ∧
    (∃ t, exec (rowBit 0 .atHL) wram = .next t) :=
  ⟨⟨_, rfl⟩, ⟨_, rfl⟩, ⟨_, rfl⟩, ⟨_, rfl⟩, ⟨_, rfl⟩, ⟨_, rfl⟩, ⟨_, rfl⟩, ⟨_, rfl⟩⟩
theorem witness_FrameAccumulatorAndPairs_alu (op : AluOp) : (∃ t, exec (rowAlu op .atHL) wram = .next t) ∧
    (∃ t, exec (rowAlu op (.reg .a)) wram = .next t) ∧ ∃ t, exec (rowAluImm op 0x01) wram = .next t := by
  cases op <;> exact ⟨⟨_, rfl⟩, ⟨_, rfl⟩, ⟨_, rfl⟩⟩
theorem witness_FrameAccumulatorAndPairs_misc (i : Instr)
    (h : i ∈ [.rlca, .rrca, .rla, .rra, .daa, .cpl, .scf, .ccf, .ld_a_atC, .ld_a_atBC, .ld_a_atDE, .ld_a_atHLi, .ld_a_atHLd,
      .ld_sp_hl, .ld_a_atA16 0xC000, .ldh_a_atA8 0x80, .ld_hl_spE8 0x01, .add_sp_e8 0xFF]) : ∃ t, exec i wram = .next t := by
  simp only [List.mem_cons, List.not_mem_nil, or_false] at h
  rcases h with rfl | rfl | rfl | rfl | rfl | rfl | rfl | rfl | rfl | rfl | rfl | rfl | rfl | rfl | rfl | rfl | rfl | rfl <;>
    exact ⟨_, rfl⟩
theorem witness_FrameAccumulatorAndPairs_words (r : R16) : (∃ t, exec (rowLdImm16 r 0x1234) wram = .next t) ∧
    (∃ t, exec (rowInc16 r) wram = .next t) ∧ (∃ t, exec (rowDec16 r) wram = .next t) ∧
    ∃ t, exec (rowAddHL r) wram = .next t := by
  cases r <;> exact ⟨⟨_, rfl⟩, ⟨_, rfl⟩, ⟨_, rfl⟩, ⟨_, rfl⟩⟩
theorem witness_FrameStores (k : IndirectA) : (∃ t, exec (rowStoreA k) wram = .next t) ∧
    (∃ t, exec (.ld_atA16_a 0xC000) wram = .next t) ∧ (∃ t, exec (.ldh_atA8_a 0x80) wram = .next t) ∧
    (∃ t, exec .ld_atC_a wram = .next t) ∧ ∃ t, exec (.ld_atA16_sp 0xFFFF) wram = .next t := by
  cases k <;> exact ⟨⟨_, rfl⟩, ⟨_, rfl⟩, ⟨_, rfl⟩, ⟨_, rfl⟩, ⟨_, rfl⟩⟩
theorem witness_FrameStackAndControl_stack (r : R16Stk) : (∃ t, exec (rowPush r) wram = .next t) ∧
    ∃ t, exec (rowPop r) wram = .next t := by
  cases r <;> exact ⟨⟨_, rfl⟩, ⟨_, rfl⟩⟩
theorem witness_FrameStackAndControl_conditions (cc : Cond) : (∃ t, exec (rowCallCond cc 0x0300) wram = .next t) ∧
    (∃ t, exec (rowRetCond cc) wram = .next t) ∧ (∃ t, exec (rowJrCond cc 0x01) wram = .next t) ∧
    ∃ t, exec (rowJpCond cc 0x0300) wram = .next t := by
  cases cc <;> exact ⟨⟨_, rfl⟩, ⟨_, rfl⟩, ⟨_, rfl⟩, ⟨_, rfl⟩⟩
/-- Both cases of CALL cc in one state. -/
theorem witness_FrameStackAndControl_call : (condHolds .z wram.regs.f = true ∧ ∃ t, exec (rowCallCond .z 0x0300) wram = .next t) ∧
    condHolds .nz wram.regs.f = false ∧ ∃ t, exec (rowCallCond .nz 0x0300) wram = .next t :=
  ⟨⟨by decide, _, rfl⟩, by decide, _, rfl⟩
theorem witness_FrameStackAndControl_others (i : Instr)
    (h : i ∈ [.call_a16 0x0300, rowRst 0, rowRst 7, .ret, .reti, .jr_e8 0xFE, .jp_a16 0x0300, .jp_hl, .nop, .stop 0x00, .halt,
      .di, .ei]) : ∃ t, exec i wram = .next t := by
  simp only [List.mem_cons, List.not_mem_nil, or_false] at h
  rcases h with rfl | rfl | rfl | rfl | rfl | rfl | rfl | rfl | rfl | rfl | rfl | rfl | rfl <;> exact ⟨_, rfl⟩
theorem witness_CycleCounts : Instr.call_nz_a16 0x0300 ≠ .prefixCB ∧
    ∃ t, exec (.call_nz_a16 0x0300) wram = .next t ∧ t.stepCycles = 3 := ⟨by decide, _, rfl, rfl⟩
theorem witness_StoreFaults : (hlAt 0xFF46).regs.hl = 0xFF46 ∧ indirectAddr .hli (hlAt 0xFF55).regs = 0xFF55 ∧
    0xFF00 + (0x51 : Byte).toNat = (0xFF51 : Word).toNat ∧ (spAt 0xFF47).regs.sp - 1 = 0xFF46 ∧
    (spAt 0xFF57).regs.sp - 2 = 0xFF55 ∧ (spAt 0xFF57).canWrite ((spAt 0xFF57).regs.sp - 1) = true ∧
    condHolds .z (spAt 0xFF57).regs.f = true := by decide
/-- The bounds of the DMA range; LD (a16),SP on both sides of each range's start; LD (C),A and the stores through BC, DE. -/
theorem witness_StoreFaults_edges : [0xFF46, 0xFF51, 0xFF55].all (fun a : Nat => decide (
      a = 0xFF46 ∨ 0xFF51 ≤ a ∧ a ≤ 0xFF55)) = true ∧
    (0xFF45 : Word) + 1 = 0xFF46 ∧ wram.canWrite 0xFF45 = true ∧ (0xFF50 : Word) + 1 = 0xFF51 ∧ wram.canWrite 0xFF50 = true ∧
    0xFF00 + (wram.set8 .c 0x46).regs.c.toNat = (0xFF46 : Word).toNat ∧
    indirectAddr .bc (wram.set16 .bc 0xFF51).regs = 0xFF51 ∧ indirectAddr .hld (hlAt 0xFF46).regs = 0xFF46 := by decide
/-- R48, R401, by hand: RES 0,(HL) has taken one draw; RST pushed its high byte at 0xFF56 and moved SP. -/
theorem test_store_faults : (match exec (rowRes 0 .atHL) (hlAt 0xFF46) with
      | .fault (.unmodelledDevice t) => decide (t.draws = 1 ∧ t.faults = [.unmodelledDevice 0xFF46] ∧ t.regs.hl = 0xFF46)
      | _ => false) = true ∧
    (match exec (rowRst 7) { spAt 0xFF57 with pc := 0x12AB } with
      | .fault (.unmodelledDevice t) => decide (t.regs.sp = 0xFF55 ∧ t.pc = 0x12AB ∧ t.faults = [.unmodelledDevice 0xFF55])
      | _ => false) = true := by decide

/-! ### Devices -/

/-- TAC 5: enabled, a period of 16; one invocation before the divider's bit 3 falls. -/
def ticking (tima : Byte) : Timer :=
  { Timer.reset 0x000F with tac := 5, tima := tima, lastTap := true }
theorem witness_TimerCounts : (ticking 0xFE).tac.getLsbD 2 = true ∧ (ticking 0xFE).ovfPending = false ∧
    (ticking 0xFE).lastTap = (ticking 0xFE).tap ∧
    (ticking 0xFE).tima.toNat + (((ticking 0xFE).divCounter.toNat + 1) / timerPeriod ((ticking 0xFE).tac.toNat % 4) -
      (ticking 0xFE).divCounter.toNat / timerPeriod ((ticking 0xFE).tac.toNat % 4)) ≤ 255 := by decide
theorem witness_TimerOverflow_wrap : (ticking 0xFF).ovfPending = false ∧ (ticking 0xFF).lastTap = true ∧
    (ticking 0xFF).count.tap = false ∧ (ticking 0xFF).tima = 0xFF := by decide
theorem witness_TimerOverflow_window : (window 0).timer.ovfPending = true ∧ (window 0).timer.ovfStep = 0 ∧
    (window 0).timer.reloadArmed = true ∧ (window 0).timer.irqArmed = true := by decide
theorem witness_FramePosition_on : postBoot.lcdc.getLsbD 7 = true ∧ postBoot.devicesWf = true := by decide
theorem witness_FramePosition_off : State.reset.lcdc.getLsbD 7 = false := by decide
theorem witness_VBlankRequest : State.devicesWf { postBoot with
    ppu := { postBoot.ppu with line := 143, dot := 455, mode := .hblank } } = true := by decide
theorem test_vblank : (ppuDotStep { postBoot with
    iflag := 0, ppu := { postBoot.ppu with line := 143, dot := 455, mode := .hblank } }).iflag = 1 := by decide
theorem witness_FetcherBatches : (List.replicate 15 (0 : BitVec 2)).length ≤ Config.decided.fetchQueueThreshold + 7 := by
  decide

/-! ### The words the host asks about -/

/-- The host's bit numbering: the first byte in bits 7..0, operand bytes above, absent bits zero. -/
theorem test_table_words : [decodeTableWord 8 0x00, decodeTableWord 24 0xC13401, decodeTableWord 8 0x01,
    decodeTableWord 16 0x37CB, decodeTableWord 16 0xCB37, decodeTableWord 8 0xCB, decodeTableWord 8 0xFD] =
    [some .nop, some (.ld_bc_d16 0xC134), some (.ld_bc_d16 0x0000), some .swap_a, some .swap_a, some .rlc_b,
     some .illegalFD] := by decide
theorem test_fetch_word : runs (State.reset.withFetchWord 24 0xC1343E)
    (fun s => acc s = 0x34 && s.pc = 0x0002) = true := by decide
theorem test_fetch_word_elsewhere : runs (State.withFetchWord { State.reset with pc := 0xFEFF } 16 0x37CB)
    (fun s => s.pc = 0xC002) = true := by decide

end Sys2Proof.Tests
end

section
/-! SUPPORT. What one step can do, said once (`30_encoding.md` R100): a step that answers a next state has waited, has
dispatched an interrupt, or has fetched and executed an instruction, and then the devices caught up. -/

namespace Sys2Proof.Machine

/-- R100: the three ways a step answers a next state. -/
theorem step_eq_next {s t : State} (h : step s = .next t) :
    (s.stepKind = .halted ∧ t = advanceDevices (haltedStep s)) ∨
    (s.stepKind = .dispatch ∧ ∃ u, dispatch s = .next u ∧ t = advanceDevices u) ∨
    (s.stepKind = .execute ∧ ∃ i u v, fetchInstr s = .next (i, u) ∧ exec i u = .next v ∧
      t = advanceDevices (finishInstr s.eiPending v)) := by
  unfold step at h
  cases hk : s.stepKind <;> simp only [hk] at h
  case faulted => exact nomatch h
  case stopped => exact nomatch h
  case halted => cases h; exact .inl ⟨rfl, rfl⟩
  case dispatch =>
    obtain ⟨u, hd, hn⟩ := andThen_eq_next h
    cases hn
    exact .inr (.inl ⟨rfl, u, hd, rfl⟩)
  case execute =>
    obtain ⟨⟨i, u⟩, hf, he⟩ := andThen_eq_next h
    obtain ⟨v, hv, hn⟩ := andThen_eq_next he
    cases hn
    exact .inr (.inr ⟨rfl, i, u, v, hf, hv, rfl⟩)

/-- R412: the acknowledgement changes no store's permission. -/
theorem State.canPush_acknowledge (s : State) (k : Nat) : (s.acknowledge k).canPush = s.canPush := rfl

/-- R412: after the acknowledgement a dispatch changes CPU fields and stores bytes, and nothing else. -/
theorem dispatch_reach {s t : State} (h : dispatch s = .next t) : Reach (s.acknowledge (lowestBit s.pending)) t := by
  obtain ⟨hp, rfl⟩ := dispatch_eq_next h
  rw [← s.canPush_acknowledge (lowestBit s.pending)] at hp
  exact ((Reach.refl.pushed _ hp).setPC _).took 5

end Sys2Proof.Machine
end

section
/-! SUPPORT. What no step changes (`00_scope.md` R8, `10_state.md` R46, R52-R54), part by part of R100's step. -/

namespace Sys2Proof.Machine

/-- `t` has the parameters, ROM images, breakpoint and fault record of `s`, and its boot ROM is not mapped again. -/
structure KeepsConstants (s t : State) : Prop where
  params : t.params = s.params
  bootRom : t.bootRom = s.bootRom
  cartRom : t.cartRom = s.cartRom
  breakpoint : t.breakpoint = s.breakpoint
  faults : t.faults = s.faults
  bootRomMapped : s.bootRomMapped = false → t.bootRomMapped = false

theorem KeepsConstants.trans {s t u : State} (h : KeepsConstants s t) (h' : KeepsConstants t u) : KeepsConstants s u where
  params := h'.params.trans h.params
  bootRom := h'.bootRom.trans h.bootRom
  cartRom := h'.cartRom.trans h.cartRom
  breakpoint := h'.breakpoint.trans h.breakpoint
  faults := h'.faults.trans h.faults
  bootRomMapped hs := h'.bootRomMapped (h.bootRomMapped hs)

theorem Reach.keepsConstants {s t : State} (h : Reach s t) : KeepsConstants s t := by
  obtain ⟨hparams, hboot, hcart, hbreak, -, hfaults, -⟩ := h.constants
  exact ⟨hparams, hboot, hcart, hbreak, hfaults, h.bootRomMapped⟩

theorem acknowledge_keepsConstants (s : State) (k : Nat) : KeepsConstants s (s.acknowledge k) :=
  ⟨rfl, rfl, rfl, rfl, rfl, id⟩

theorem finishInstr_keepsConstants (ei : Bool) (s : State) : KeepsConstants s (finishInstr ei s) :=
  ⟨rfl, rfl, rfl, rfl, rfl, id⟩

theorem haltedStep_keepsConstants (s : State) : KeepsConstants s (haltedStep s) := by
  unfold haltedStep
  split <;> exact ⟨rfl, rfl, rfl, rfl, rfl, id⟩

theorem advanceDevices_keepsConstants (s : State) : KeepsConstants s (advanceDevices s) := by
  rw [advanceDevices_eq]
  exact ⟨rfl, rfl, rfl, rfl, rfl, id⟩

theorem step_keepsConstants {s t : State} (h : step s = .next t) : KeepsConstants s t := by
  rcases step_eq_next h with ⟨-, rfl⟩ | ⟨-, u, hd, rfl⟩ | ⟨-, i, u, v, hf, he, rfl⟩
  · exact (haltedStep_keepsConstants s).trans (advanceDevices_keepsConstants _)
  · exact ((acknowledge_keepsConstants s _).trans (dispatch_reach hd).keepsConstants).trans
      (advanceDevices_keepsConstants u)
  · have hcpu : Reach s v := (fetchInstr_reach hf).1.trans (exec_reach he)
    exact (hcpu.keepsConstants.trans (finishInstr_keepsConstants _ v)).trans (advanceDevices_keepsConstants _)

/-- Settles O16: by the case split of R100, each part of a step keeps the constants. -/
theorem stepKeepsConstants : Obligations.StepKeepsConstants := by
  intro s t h
  obtain ⟨hparams, hboot, hcart, hbreak, hfaults, hmapped⟩ := step_keepsConstants h
  exact ⟨hparams, hboot, hcart, hbreak, hfaults, hmapped⟩

end Sys2Proof.Machine
end

section
/-! SUPPORT. The bus primitive (`20_memory.md` R61): where it fails, and that one byte of it is one access of the CPU. -/

namespace Sys2Proof.Machine

/-- An answer under a bound fails exactly where the bound does not hold. -/
theorem BusAnswer.ite_eq_outOfRange {α : Type} {p : Prop} [Decidable p] {x : α} :
    (if p then BusAnswer.ok x else .outOfRange) = .outOfRange ↔ ¬ p := by
  by_cases hp : p <;> simp [hp]

theorem busRead_eq_outOfRange (s : State) (addr length : Nat) :
    busRead addr length s = .outOfRange ↔ 0x10000 < addr + length := BusAnswer.ite_eq_outOfRange.trans Nat.not_le

theorem busWrite_eq_outOfRange (s : State) (addr : Nat) (bytes : List Byte) :
    busWrite addr bytes s = .outOfRange ↔ 0x10000 < addr + bytes.length :=
  BusAnswer.ite_eq_outOfRange.trans Nat.not_le

/-- Going on with nothing more to do. -/
theorem andThen_next_right {α : Type} (o : Res α) : andThen o .next = o := by cases o <;> rfl

theorem readBytes_one (a : Word) (s : State) :
    readBytes 1 a s = andThen (memRead a s) fun (v, t) => .next ([v], t) := rfl

theorem writeBytes_one (a : Word) (v : Byte) (s : State) : writeBytes [v] a s = memWrite a v s := andThen_next_right _

/-- R12, R61: one byte at a 16-bit address is in range, so the bus read is `MemRead`. -/
theorem busRead_one (s : State) (a : Word) :
    busRead a.toNat 1 s = .ok (andThen (memRead a s) fun (v, t) => .next ([v], t)) := by
  have hin : a.toNat + 1 ≤ 0x10000 := a.isLt
  rw [busRead, if_pos hin, BitVec.ofNat_toNat, BitVec.setWidth_eq]
  exact congrArg BusAnswer.ok (readBytes_one a s)

/-- R12, R61: likewise the bus write is `MemWrite`. -/
theorem busWrite_one (s : State) (a : Word) (v : Byte) : busWrite a.toNat [v] s = .ok (memWrite a v s) := by
  have hin : a.toNat + [v].length ≤ 0x10000 := a.isLt
  rw [busWrite, if_pos hin, BitVec.ofNat_toNat, BitVec.setWidth_eq]
  exact congrArg BusAnswer.ok (writeBytes_one a v s)

/-- Settles O27: the bus tests its bound before any access, and one byte never exceeds it. -/
theorem busPrimitive : Obligations.BusPrimitive :=
  ⟨busRead_eq_outOfRange, busWrite_eq_outOfRange, busRead_one, busWrite_one⟩

end Sys2Proof.Machine
end

section
/-! SUPPORT. The invariants at launch (`70_reset_and_hazards.md` R500-R503), each from the premises of `Launch.wf`. -/

namespace Sys2Proof.Machine

/-- R44, R47, R501: the storage I/O registers at launch, whatever the mode. -/
theorem State.launch_io_spec (k : Launch) :
    (State.launch k).io.wf = true ∧ (State.launch k).io.within ioCell = true ∧
    (State.launch k).io.read 0xFF00 = 0x00 ∧ (State.launch k).io.read 0xFF41 = 0x00 := by
  simp only [State.launch]
  cases k.startMode <;> decide

/-- R501: the timer at launch is outside any overflow window, whatever the mode. -/
theorem State.launch_timer_wf (k : Launch) : (State.launch k).timer.wf = true := by
  simp only [State.launch]
  cases k.startMode <;> rfl

/-- R443, R501: a scanline controller at reset is at the first dot of line 0, in OAM search. -/
theorem Ppu.wf_reset {p : Params} (hp : paramsSane p = true) : Ppu.reset.wf p = true :=
  Ppu.wf_lcdOff Ppu.reset hp

theorem State.launch_memoryWf {k : Launch} (h : k.wf = true) : (State.launch k).memoryWf = true := by
  simp only [Launch.wf, Bool.and_eq_true] at h
  obtain ⟨⟨⟨⟨⟨hram, hramCells⟩, hboot⟩, hbootCells⟩, hcart⟩, -⟩ := h
  obtain ⟨hio, hioCells, -, -⟩ := State.launch_io_spec k
  simp only [State.memoryWf, Bool.and_eq_true]
  exact ⟨⟨⟨⟨⟨⟨hram, hramCells⟩, hio⟩, hioCells⟩, hboot⟩, hbootCells⟩, hcart⟩

theorem State.launch_devicesWf {k : Launch} (h : k.wf = true) : (State.launch k).devicesWf = true := by
  simp only [Launch.wf, Bool.and_eq_true] at h
  obtain ⟨-, hsane⟩ := h
  simp only [State.devicesWf, Bool.and_eq_true]
  exact ⟨⟨hsane, State.launch_timer_wf k⟩, Ppu.wf_reset hsane⟩

theorem State.launch_haltBugWf (k : Launch) : (State.launch k).haltBugWf = true := rfl

theorem Launch.wf_default : Launch.default.wf = true := by decide

/-- Settles O12: launch by launch; `State.reset` is the launch `Launch.default`, which meets the premises. -/
theorem launchInvariants : Obligations.LaunchInvariants := by
  have hlaunch : ∀ k : Launch, k.wf = true →
      (State.launch k).memoryWf = true ∧ (State.launch k).devicesWf = true ∧ (State.launch k).haltBugWf = true :=
    fun k hk => ⟨State.launch_memoryWf hk, State.launch_devicesWf hk, State.launch_haltBugWf k⟩
  obtain ⟨hmem, hdev, hbug⟩ := hlaunch _ Launch.wf_default
  refine ⟨hlaunch, hmem, hdev, hbug, fun k => ?_⟩
  obtain ⟨-, -, hjoypad, hstat⟩ := State.launch_io_spec k
  exact ⟨hjoypad, hstat⟩

end Sys2Proof.Machine
end

section
/-! SUPPORT. The memory invariant (`20_memory.md` R64-R68) along a step: the byte stores and the parameters are all it
speaks of, so what changes neither keeps it. -/

namespace Sys2Proof.Machine

theorem State.memoryWf_acknowledge (s : State) (k : Nat) : (s.acknowledge k).memoryWf = s.memoryWf := rfl

theorem memoryWf_finishInstr (ei : Bool) (s : State) : (finishInstr ei s).memoryWf = s.memoryWf := rfl

theorem memoryWf_haltedStep (s : State) : (haltedStep s).memoryWf = s.memoryWf := by
  unfold haltedStep
  split <;> rfl

/-- The devices read video RAM and store nothing. -/
theorem memoryWf_advanceDevices (s : State) : (advanceDevices s).memoryWf = s.memoryWf := by
  rw [advanceDevices_eq]
  rfl

/-- Settles O13: by the case split of R100; only the CPU's stores reach the byte stores (`Reach.memoryWf`). -/
theorem stepKeepsMemory : Obligations.StepKeepsMemory := by
  intro s t hs h
  rcases step_eq_next h with ⟨-, rfl⟩ | ⟨-, u, hd, rfl⟩ | ⟨-, i, u, v, hf, he, rfl⟩
  · rwa [memoryWf_advanceDevices, memoryWf_haltedStep]
  · rw [memoryWf_advanceDevices]
    exact (dispatch_reach hd).memoryWf (by rwa [State.memoryWf_acknowledge])
  · rw [memoryWf_advanceDevices, memoryWf_finishInstr]
    exact ((fetchInstr_reach hf).1.trans (exec_reach he)).memoryWf hs

end Sys2Proof.Machine
end

section
/-! SUPPORT. The EI delay (`10_state.md` R34, `30_encoding.md` R100): IME and `ei_pending` over the step of one
instruction. -/

namespace Sys2Proof.Machine

/-- Without the HALT bug the three bytes at PC are the opcode byte and the two after it, read one after the other. -/
theorem decode_bytesAt_fetched {s : State} (hb : s.haltBug = false) :
    decode (s.bytesAt 3 s.pc) =
      decode (s.peek s.pc :: (s.afterRead s.pc).bytesAt 2 (if s.haltBug then s.pc else s.pc + 1)) := by
  rw [hb]
  rfl

/-- R100-R102: a step that executes has run the instruction the bytes at PC decode to, at a state past its fetch. -/
theorem step_decoded_eq_next {s t : State} {i : Instr} {rest : List Byte} (hk : s.stepKind = .execute)
    (hb : s.haltBug = false) (hd : decode (s.bytesAt 3 s.pc) = .ok (i, rest)) (h : step s = .next t) :
    ∃ u v, fetchInstr s = .next (i, u) ∧ exec i u = .next v ∧ t = advanceDevices (finishInstr s.eiPending v) := by
  rcases step_eq_next h with ⟨hk', -⟩ | ⟨hk', -⟩ | ⟨-, j, u, v, hf, he, ht⟩
  · rw [hk] at hk'; exact nomatch hk'
  · rw [hk] at hk'; exact nomatch hk'
  · rw [decode_bytesAt_fetched hb] at hd
    obtain ⟨hr, hrs, hn⟩ := fetchInstr_eq_next hd hf
    have hij : Host.Outcome.next (j, u) = .next (i, _) := hf.symm.trans (fetchInstr_spec hd hr hrs hn)
    injection hij with hij
    obtain rfl : j = i := congrArg Prod.fst hij
    exact ⟨u, v, hf, he, ht⟩

/-- R34, R204, R205, R219: IME and `ei_pending` after the instruction, from what they were before it. -/
theorem step_interruptEnable {s t : State} {i : Instr} {rest : List Byte} (hk : s.stepKind = .execute)
    (hb : s.haltBug = false) (hd : decode (s.bytesAt 3 s.pc) = .ok (i, rest)) (h : step s = .next t) :
    (i = .di → t.ime = false ∧ t.eiPending = false) ∧
    (i = .reti → t.ime = true ∧ t.eiPending = false) ∧
    (i ≠ .di → i ≠ .reti → s.eiPending = true → t.ime = true ∧ t.eiPending = false) ∧
    (i ≠ .di → i ≠ .reti → s.eiPending = false → t.ime = s.ime ∧ t.eiPending = decide (i = .ei)) := by
  obtain ⟨u, v, hf, he, rfl⟩ := step_decoded_eq_next hk hb hd h
  obtain ⟨-, -, huIme, huEi, -⟩ := fetchInstr_reach hf
  obtain ⟨hdi, hreti, hei, hime, hkeep⟩ := exec_interruptEnable he
  have hvEi : i ≠ .di → i ≠ .reti → v.eiPending = (decide (i = .ei) || s.eiPending) := fun hnd hnr => by
    by_cases hi : i = .ei
    · simp [hi, hei hi]
    · simp [hi, hkeep hnd hnr hi, huEi]
  simp only [advanceDevices_ime, advanceDevices_eiPending, finishInstr]
  refine ⟨fun hi => ?_, fun hi => ?_, fun hnd hnr hs => ?_, fun hnd hnr hs => ?_⟩
  · simp [hdi hi]
  · simp [hreti hi]
  · simp [hs, hvEi hnd hnr]
  · simp [hs, hvEi hnd hnr, hime hnd hnr, huIme]

/-- R101, R102: the fetch of an instruction of one byte, with nothing refused. -/
theorem fetchInstr_oneByte {s : State} {i : Instr} {rest : List Byte} (hb : s.haltBug = false)
    (hr : s.canRead s.pc = true) (hn : s.params.refusedOpcodes = []) (hd : decode (s.bytesAt 3 s.pc) = .ok (i, rest))
    (hl : (encode i).length = 1) :
    fetchInstr s = .next (i, { s.afterRead s.pc with pc := s.pc + 1, opAddr := s.pc, haltBug := false }) := by
  rw [decode_bytesAt_fetched hb] at hd
  rw [fetchInstr_spec hd hr (by rw [hl]; rfl) (.inr (by simp [State.refuses, hn])), hl, hb]
  simp [State.afterReads]

/-- R100: the step of such an instruction, where it answers a state. -/
theorem step_oneByte {s v : State} {i : Instr} {rest : List Byte} (hk : s.stepKind = .execute) (hb : s.haltBug = false)
    (hr : s.canRead s.pc = true) (hn : s.params.refusedOpcodes = []) (hd : decode (s.bytesAt 3 s.pc) = .ok (i, rest))
    (hl : (encode i).length = 1)
    (he : exec i { s.afterRead s.pc with pc := s.pc + 1, opAddr := s.pc, haltBug := false } = .next v) :
    step s = .next (advanceDevices (finishInstr s.eiPending v)) := by
  unfold step
  rw [hk]
  show andThen (fetchInstr s) _ = _
  rw [fetchInstr_oneByte hb hr hn hd hl]
  show andThen (exec i _) _ = _
  rw [he]
  rfl

/-- The bytes at PC begin with the byte a read of PC returns. -/
theorem decode_bytesAt_opcode (s : State) {op : Byte} (h : s.peek s.pc = op) :
    decode (s.bytesAt 3 s.pc) = decode (op :: (s.afterRead s.pc).bytesAt 2 (s.pc + 1)) := by
  rw [State.bytesAt, h]

/-- Settles O10: the delay is `step_interruptEnable`; EI, NOP and DI are one byte each and always answer a state. -/
theorem eiDelay : Obligations.EiDelay := by
  refine ⟨fun s t i rest => step_interruptEnable, fun s hk hb hr hn => ?_⟩
  refine ⟨fun hp hs => ?_, fun hp hs => ?_, fun hp hs => ?_, fun hp => ?_⟩
  · have hd : decode (s.bytesAt 3 s.pc) = .ok (.ei, _) := decode_bytesAt_opcode s hp
    have h := step_oneByte hk hb hr hn hd rfl rfl
    obtain ⟨-, -, -, hkeep⟩ := step_interruptEnable hk hb hd h
    obtain ⟨hime, hei⟩ := hkeep nofun nofun hs
    exact ⟨_, h, hei, hime, by simp [finishInstr]⟩
  · have hd : decode (s.bytesAt 3 s.pc) = .ok (.ei, _) := decode_bytesAt_opcode s hp
    have h := step_oneByte hk hb hr hn hd rfl rfl
    obtain ⟨-, -, hset, -⟩ := step_interruptEnable hk hb hd h
    obtain ⟨hime, hei⟩ := hset nofun nofun hs
    exact ⟨_, h, hei, hime, by simp [finishInstr]⟩
  · have hd : decode (s.bytesAt 3 s.pc) = .ok (.nop, _) := decode_bytesAt_opcode s hp
    have h := step_oneByte hk hb hr hn hd rfl rfl
    obtain ⟨-, -, hset, -⟩ := step_interruptEnable hk hb hd h
    obtain ⟨hime, hei⟩ := hset nofun nofun hs
    exact ⟨_, h, hei, hime⟩
  · have hd : decode (s.bytesAt 3 s.pc) = .ok (.di, _) := decode_bytesAt_opcode s hp
    have h := step_oneByte hk hb hr hn hd rfl rfl
    obtain ⟨hdi, -, -, -⟩ := step_interruptEnable hk hb hd h
    obtain ⟨hime, hei⟩ := hdi rfl
    exact ⟨_, h, hei, hime⟩

end Sys2Proof.Machine
end

section
/-! SUPPORT. Reads and writes of the locations under a rule of their own (`10_state.md` R37-R49, `20_memory.md` R68): the
ones whose read is a `draw()`, and the I/O registers one by one. -/

namespace Sys2Proof.Machine

/-! ## Accesses outside the echo region -/

/-- R67: only the echo region restricts an access. -/
theorem State.canRead_of_region (s : State) {a : Word} (h : region a ≠ .echo) : s.canRead a = true := by
  simp [State.canRead, State.restricted, h]

/-- R48, R66: outside the echo region a write faults at a DMA register alone. -/
theorem memWrite_of_region (s : State) {a : Word} (v : Byte) (he : region a ≠ .echo) (hd : isDma a = false) :
    memWrite a v s = .next (s.poke a v) :=
  memWrite_eq v (by simp [State.canWrite, State.restricted, he, hd])

/-! ## The unusable tail of the OAM page (R68) -/

theorem memRead_oamTail (s : State) {a : Word} (hr : region a = .oam) (ho : oamStored a = false) :
    memRead a s = .next (Config.draw s.draws, { s with draws := s.draws + 1 }) := by
  rw [memRead_eq (s.canRead_of_region (by simp [hr]))]
  simp [State.peek, State.afterRead, State.nextDraw, drawnAt, hr, ho]

theorem memWrite_oamTail (s : State) {a : Word} (v : Byte) (hr : region a = .oam) (ho : oamStored a = false) :
    memWrite a v s = .next s := by
  rw [memWrite_of_region s v (by simp [hr]) (by simp [isDma, hr])]
  simp [State.poke, hr, ho]

/-! ## The I/O region (R38-R49) -/

theorem memRead_io (s : State) {a : Word} (hr : region a = .io) :
    memRead a s = .next (s.ioPeek a, if (ioReg a).drawn then { s with draws := s.draws + 1 } else s) := by
  rw [memRead_eq (s.canRead_of_region (by simp [hr]))]
  simp [State.peek, State.afterRead, drawnAt, hr]

theorem memWrite_io (s : State) {a : Word} (v : Byte) (hr : region a = .io) (hd : ioReg a ≠ .dma) :
    memWrite a v s = .next (s.ioPoke a v) := by
  rw [memWrite_of_region s v (by simp [hr]) (by simp [isDma, hd])]
  simp [State.poke, hr]

/-- R49: the offsets no register has. -/
theorem ioRegAt_unnamed : ∀ off < 0x80,
    (off = 0x03 ∨ 0x08 ≤ off ∧ off ≤ 0x0E ∨ 0x27 ≤ off ∧ off ≤ 0x2F ∨ 0x4C ≤ off ∧ off ≤ 0x4E ∨
      0x56 ≤ off ∧ off ≤ 0x67 ∨ 0x6A ≤ off ∧ off ≤ 0x6F ∨ 0x71 ≤ off) → ioRegAt off = .unnamed := by decide

/-- R48, R49: the DMA registers and the unnamed offsets keep no byte; a read takes the next input. -/
theorem memRead_dma_or_unnamed (s : State) {a : Word} (hr : region a = .io)
    (hq : ioReg a = .dma ∨ ioReg a = .unnamed) :
    memRead a s = .next (Config.draw s.draws, { s with draws := s.draws + 1 }) := by
  rw [memRead_io s hr]
  rcases hq with hq | hq <;> simp [State.ioPeek, State.nextDraw, IoReg.drawn, hq]

theorem memWrite_unnamed (s : State) {a : Word} (v : Byte) (hr : region a = .io) (hq : ioReg a = .unnamed) :
    memWrite a v s = .next s := by
  rw [memWrite_io s v hr (by simp [hq])]
  simp [State.ioPoke, hq]

/-- Settles O23: each address lies in the OAM tail or at an unnamed I/O offset. -/
theorem unusableLocations : Obligations.UnusableLocations := by
  intro s a v h
  by_cases hoam : a.toNat ≤ 0xFEFF
  · have hr : region a = .oam := region_eq_of_bounds (by simp only [Region.first]; omega) hoam
    have ho : oamStored a = false := by simp only [oamStored, decide_eq_false_iff_not]; omega
    exact ⟨memRead_oamTail s hr ho, memWrite_oamTail s v hr ho⟩
  · have hr : region a = .io :=
      region_eq_of_bounds (by simp only [Region.first]; omega) (by simp only [Region.last]; omega)
    have hq : ioReg a = .unnamed := by
      rw [ioReg, loByte_toNat]
      exact ioRegAt_unnamed _ (by omega) (by omega)
    exact ⟨memRead_dma_or_unnamed s hr (.inr hq), memWrite_unnamed s v hr hq⟩

/-! ## The DMA registers (R48) -/

theorem region_dma {a : Word} (h : a.toNat = 0xFF46 ∨ 0xFF51 ≤ a.toNat ∧ a.toNat ≤ 0xFF55) :
    region a = .io ∧ ioReg a = .dma := by
  have := dma_cases h
  simp only [List.mem_cons, List.not_mem_nil, or_false] at this
  rcases this with rfl | rfl | rfl | rfl | rfl | rfl <;> exact ⟨rfl, rfl⟩

/-- Settles O24: the read is that of an I/O register under `draw()`, the write is `memWrite_dma`. -/
theorem dmaRegisters : Obligations.DmaRegisters := by
  intro s a v h
  obtain ⟨hr, hq⟩ := region_dma h
  exact ⟨memRead_dma_or_unnamed s hr (.inl hq), memWrite_dma h v s⟩

/-! ## The registers with free bits (R38, R42): stored bits below, bits of a `draw()` above -/

/-- The upper `n` bits of one value over `k` bits of another, as a mask and an OR. -/
theorem extractLsb'_append_eq_or {k n : Nat} (x mask : BitVec (n + k)) (y : BitVec k)
    (hm : mask = BitVec.allOnes n ++ 0#k) : x.extractLsb' k n ++ y = (x &&& mask) ||| y.setWidth (n + k) := by
  subst hm
  refine BitVec.eq_of_getLsbD_eq fun i hi => ?_
  simp only [BitVec.getLsbD_append, BitVec.getLsbD_or, BitVec.getLsbD_and, BitVec.getLsbD_setWidth,
    BitVec.getLsbD_extractLsb', BitVec.getLsbD_allOnes, BitVec.getLsbD_zero]
  by_cases hk : i < k
  · simp [hk, hi]
  · have hn : i - k < n := by omega
    simp [hk, hn, BitVec.getLsbD_of_ge y i (by omega), show k + (i - k) = i by omega]

theorem memRead_tac (s : State) : memRead 0xFF07 s =
    .next ((Config.draw s.draws &&& 0xF8) ||| s.timer.tac.setWidth 8, { s with draws := s.draws + 1 }) := by
  have hbits := extractLsb'_append_eq_or (k := 3) (n := 5) (Config.draw s.draws) 0xF8#8 s.timer.tac rfl
  rw [memRead_io s (by decide)]
  exact congrArg (fun b => Host.Outcome.next (b, { s with draws := s.draws + 1 })) hbits

theorem memRead_ifReg (s : State) : memRead 0xFF0F s =
    .next ((Config.draw s.draws &&& 0xE0) ||| s.iflag.setWidth 8, { s with draws := s.draws + 1 }) := by
  have hbits := extractLsb'_append_eq_or (k := 5) (n := 3) (Config.draw s.draws) 0xE0#8 s.iflag rfl
  rw [memRead_io s (by decide)]
  exact congrArg (fun b => Host.Outcome.next (b, { s with draws := s.draws + 1 })) hbits

/-- R42: a write to TAC keeps bits 2:0. -/
theorem memWrite_tac (s : State) (v : Byte) :
    memWrite 0xFF07 v s = .next { s with timer := { s.timer with tac := v.setWidth 3 } } := by
  rw [memWrite_io s v (by decide) (by decide), BitVec.setWidth_eq_extractLsb' (by decide)]
  rfl

/-- R38: a write to IF keeps bits 4:0. -/
theorem memWrite_ifReg (s : State) (v : Byte) : memWrite 0xFF0F v s = .next { s with iflag := v.setWidth 5 } := by
  rw [memWrite_io s v (by decide) (by decide), BitVec.setWidth_eq_extractLsb' (by decide)]
  rfl

/-! ## TIMA (R40, R435) -/

theorem memWrite_tima (s : State) (v : Byte) :
    memWrite 0xFF05 v s = .next { s with timer := s.timer.writeTima v } := memWrite_io s v (by decide) (by decide)

theorem Timer.writeTima_idle {t : Timer} (v : Byte) (hp : t.ovfPending = false) :
    t.writeTima v = { t with tima := v } := by simp [Timer.writeTima, hp]

/-- R435: before the window's third invocation a write cancels the reload too. -/
theorem Timer.writeTima_early {t : Timer} (v : Byte) (hp : t.ovfPending = true) (hs : t.ovfStep.val < 3) :
    t.writeTima v = { t with tima := v, irqArmed := false, reloadArmed := false } := by
  rw [Timer.writeTima, if_pos hp, if_pos (Fin.lt_def.2 hs)]

theorem Timer.writeTima_late {t : Timer} (v : Byte) (hp : t.ovfPending = true) (hs : 3 ≤ t.ovfStep.val) :
    t.writeTima v = { t with tima := v, irqArmed := false } := by
  have hlate : ¬ t.ovfStep < 3 := Nat.not_lt.2 hs
  rw [Timer.writeTima, if_pos hp, if_neg hlate]

/-- Settles O25: TIMA's write by R435's three cases, TAC by its free bits; DIV and TMA by the I/O tables. -/
theorem timerRegisters : Obligations.TimerRegisters := by
  intro s v
  refine ⟨rfl, rfl, rfl, fun hp => ?_, fun hp hs => ?_, fun hp hs => ?_, rfl, rfl, memRead_tac s, memWrite_tac s v⟩
  · rw [memWrite_tima, Timer.writeTima_idle v hp]
  · rw [memWrite_tima, Timer.writeTima_early v hp hs]
  · rw [memWrite_tima, Timer.writeTima_late v hp hs]

/-! ## BOOT (R46) -/

/-- R46: only a non-zero write unmaps the boot ROM, and no write maps it. -/
theorem memWrite_boot (s : State) (v : Byte) :
    memWrite 0xFF50 v s = .next { s with bootRomMapped := s.bootRomMapped && decide (v = 0) } := by
  rw [memWrite_io s v (by decide) (by decide)]
  show Host.Outcome.next (if v = 0 then s else { s with bootRomMapped := false }) = _
  by_cases hv : v = 0
  · rw [if_pos hv, decide_eq_true hv, Bool.and_true]
  · rw [if_neg hv, decide_eq_false hv, Bool.and_false]

/-- Settles O26: IF by its free bits, BOOT by its two writes; the other registers by the I/O tables. -/
theorem controlRegisters : Obligations.ControlRegisters := fun s v =>
  ⟨rfl, rfl, memRead_ifReg s, memWrite_ifReg s v, rfl, rfl, rfl, rfl, rfl, rfl, rfl, memWrite_boot s v, rfl, rfl⟩

end Sys2Proof.Machine
end

section
/-! SUPPORT. The register file as one storage (`10_state.md` R20-R22): what a read of a register or a pair returns after a
write to another, and F's four bits. -/

namespace Sys2Proof.Machine

/-! ## Pairs -/

theorem Regs.get16_set16_other (r : Regs) {x y : R16} (v : Word) (h : y ≠ x) :
    (r.set16 x v).get16 y = r.get16 y := by
  cases x <;> cases y <;> first | rfl | exact absurd rfl h

/-! ## F (R22) -/

/-- R22: the byte a write to F leaves, bit by bit. -/
theorem Flags.toByte_ofByte (v : Byte) : (Flags.ofByte v).toByte = v &&& 0xF0 := by
  refine BitVec.eq_of_getLsbD_eq fun i hi => ?_
  simp only [Flags.toByte, Flags.ofByte, BitVec.getLsbD_append, BitVec.getLsbD_ofBool, BitVec.getLsbD_and]
  interval_cases i <;> simp

/-- R21, R22: AF keeps all but F's bits 3:0. -/
theorem Regs.af_setAF (r : Regs) (v : Word) : (r.setAF v).af = v &&& 0xFFF0 := by
  calc (r.setAF v).af = joinBytes (hiByte v) (loByte v &&& 0xF0) := by
        rw [← Flags.toByte_ofByte]; rfl
    _ = joinBytes (hiByte v &&& BitVec.allOnes 8) (loByte v &&& 0xF0) := by rw [BitVec.and_allOnes]
    _ = joinBytes (hiByte v) (loByte v) &&& 0xFFF0 := BitVec.and_append.symm
    _ = v &&& 0xFFF0 := by rw [joinBytes_hiByte_loByte]

/-- Settles O28: the views by their definitions, the writes by the register file's laws, F by its bits. -/
theorem byteViews : Obligations.ByteViews := by
  refine ⟨fun r => ⟨rfl, rfl, rfl, rfl⟩, fun r x y v => ?_, fun r x v => ⟨r.set8_f x v, r.set8_sp x v⟩, fun r x y v => ?_,
    fun r v => ⟨rfl, rfl⟩, Flags.toByte_ofByte, Regs.af_setAF⟩
  · split
    · next h => rw [h, Regs.get8_set8_same]
    · next h => exact Regs.get8_set8_other r v h
  · split
    · next h => rw [h, Regs.get16_set16]
    · next h => exact Regs.get16_set16_other r v h

end Sys2Proof.Machine
end

section
/-! SUPPORT. The frames of whole instructions, part by part: a write of CPU registers after a read or a store, and which
registers a write of the register file leaves. -/

namespace Sys2Proof.Machine

/-! ## Registers only -/

/-- Registers, PC, the cycle count and the `draw()` counter written last change nothing of the frame. -/
theorem OnlyRegisters.of_eq_right {s u t : State}
    (ht : t = { u with regs := t.regs, pc := t.pc, draws := t.draws, stepCycles := t.stepCycles })
    (h : OnlyRegisters s u) : OnlyRegisters s t := by
  have hpeek : ∀ b, drawnAt b = false → t.peek b = u.peek b :=
    fun b hb => (OnlyRegisters.of_eq ht).2.2.2 b hb nofun
  obtain ⟨hc, hd, hram, hb⟩ := h
  rw [ht] at hpeek ⊢
  exact ⟨hc, hd, hram, fun b hdb hw => (hpeek b hdb).trans (hb b hdb hw)⟩

theorem OnlyRegisters.afterRead (s : State) (a : Word) : OnlyRegisters s (s.afterRead a) := by
  rw [s.afterRead_eq a]
  exact OnlyRegisters.of_eq rfl

theorem OnlyRegisters.afterOperand (s : State) (o : Operand8) : OnlyRegisters s (s.afterOperand o) := by
  rw [s.afterOperand_eq o]
  exact OnlyRegisters.of_eq rfl

theorem OnlyRegisters.popped (s : State) : OnlyRegisters s s.popped := by
  rw [s.popped_eq]
  exact OnlyRegisters.of_eq rfl

/-- HL moves, or nothing. -/
theorem OnlyRegisters.indirectStep {s u : State} (k : IndirectA) (h : OnlyRegisters s u) :
    OnlyRegisters s (indirectStep k u) := h.of_eq_right (by cases k <;> rfl)

/-! ## Stores -/

theorem OnlyStores.indirectStep {w : List Word} {s u : State} (k : IndirectA) (h : OnlyStores w s u) :
    OnlyStores w s (indirectStep k u) := h.of_eq_right (by cases k <;> rfl)

/-- R110: the operand (HL) read, then written. -/
theorem OnlyStores.modifyAtHL (s : State) (v : Byte) :
    OnlyStores [s.regs.hl] s ((s.afterOperand .atHL).setOperand .atHL v) := by
  have hstore := OnlyStores.poke (s.afterOperand .atHL) (s.afterOperand .atHL).regs.hl v
  rw [State.afterOperand_regs] at hstore
  have hread : s.afterOperand .atHL = { s with
      regs := (s.afterOperand .atHL).regs, pc := (s.afterOperand .atHL).pc, draws := (s.afterOperand .atHL).draws,
      stepCycles := (s.afterOperand .atHL).stepCycles } := by
    rw [s.afterOperand_eq .atHL]
  exact OnlyStores.of_eq_left hread (by simpa [State.setOperand] using hstore)

@[simp] theorem State.setOperand_atHL_regs (s : State) (v : Byte) : (s.setOperand .atHL v).regs = s.regs :=
  s.poke_regs _ v

/-! ## The byte registers a write leaves: `u` is the state after the instruction's reads and stores -/

theorem Regs.get8_set16_other (r : Regs) {x : R16} {y : R8} (v : Word) (h : y ∉ halves x) :
    (r.set16 x v).get8 y = r.get8 y := by
  cases x <;> cases y <;> first | rfl | simp [halves] at h

theorem Regs.get8_setStk_other (r : Regs) {x : R16Stk} {y : R8} (v : Word) (h : y ∉ halvesStk x) :
    (r.setStk x v).get8 y = r.get8 y := by
  cases x <;> cases y <;> first | rfl | simp [halvesStk] at h

@[simp] theorem Regs.setStk_sp (r : Regs) (x : R16Stk) (v : Word) : (r.setStk x v).sp = r.sp := by cases x <;> rfl

theorem Regs.setStk_f (r : Regs) {x : R16Stk} (v : Word) (h : x ≠ .af) : (r.setStk x v).f = r.f := by
  cases x <;> first | rfl | exact absurd rfl h

theorem Regs.set16_sp (r : Regs) {x : R16} (v : Word) (h : x ≠ .sp) : (r.set16 x v).sp = r.sp := by
  cases x <;> first | rfl | exact absurd rfl h

/-- F and SP are no byte registers of R110. -/
theorem Regs.get8_f_sp (r : Regs) (f : Flags) (sp : Word) (y : R8) :
    Regs.get8 { r with f := f, sp := sp } y = r.get8 y := by cases y <;> rfl

theorem SameRegsBut.nil {s u t : State} {f : Flags} {sp : Word} (hu : u.regs = s.regs)
    (ht : t.regs = { u.regs with f := f, sp := sp }) : SameRegsBut [] s t := by
  intro y _
  rw [ht, hu, Regs.get8_f_sp]

theorem SameRegsBut.set8 {s u t : State} {x : R8} {v : Byte} {f : Flags} (hu : u.regs = s.regs)
    (ht : t.regs = { u.regs.set8 x v with f := f }) : SameRegsBut [x] s t := by
  intro y hy
  rw [ht, hu]
  exact (Regs.get8_f_sp _ _ _ y).trans (Regs.get8_set8_other _ v (by simpa using hy))

theorem SameRegsBut.set16 {s u t : State} {x : R16} {v : Word} {f : Flags} (hu : u.regs = s.regs)
    (ht : t.regs = { u.regs.set16 x v with f := f }) : SameRegsBut (halves x) s t := by
  intro y hy
  rw [ht, hu]
  exact (Regs.get8_f_sp _ _ _ y).trans (Regs.get8_set16_other _ v hy)

/-- `42_loads.md` R237-R240: the (HL+) and (HL-) forms move HL as well. -/
theorem SameRegsBut.indirectStep {ds : List R8} {s u : State} (k : IndirectA) (h : SameRegsBut ds s u) :
    SameRegsBut (ds ++ halves .hl) s (indirectStep k u) := by
  intro y hy
  rw [List.mem_append, not_or] at hy
  obtain ⟨hds, hhl⟩ := hy
  have hmove : ∀ v, (u.setHL v).regs.get8 y = u.regs.get8 y := fun v => Regs.get8_set16_other u.regs v hhl
  cases k
  · exact h y hds
  · exact h y hds
  · exact (hmove _).trans (h y hds)
  · exact (hmove _).trans (h y hds)

@[simp] theorem indirectStep_sp (k : IndirectA) (s : State) : (indirectStep k s).regs.sp = s.regs.sp := by
  cases k <;> rfl

@[simp] theorem indirectStep_f (k : IndirectA) (s : State) : (indirectStep k s).regs.f = s.regs.f := by
  cases k <;> rfl

/-! ## The frame of a register write after a read that changed no register -/

section
variable {s u : State} (hu : OnlyRegisters s u) (hr : u.regs = s.regs)
include hu hr

/-- A byte register written, no flag. -/
theorem set8_frame (x : R8) (v : Byte) (n : Nat) :
    OnlyRegisters s ((u.set8 x v).took n) ∧ SameRegsBut [x] s ((u.set8 x v).took n) ∧
    ((u.set8 x v).took n).regs.sp = s.regs.sp ∧ ((u.set8 x v).took n).regs.f = s.regs.f :=
  ⟨hu.of_eq_right rfl, SameRegsBut.set8 hr rfl, by simp [hr], by simp [hr]⟩

/-- A byte register and the flags written. -/
theorem set8_setF_frame (x : R8) (v : Byte) (f : Flags) (n : Nat) :
    OnlyRegisters s (((u.set8 x v).setF f).took n) ∧ SameRegsBut [x] s (((u.set8 x v).setF f).took n) ∧
    (((u.set8 x v).setF f).took n).regs.sp = s.regs.sp :=
  ⟨hu.of_eq_right rfl, SameRegsBut.set8 hr rfl, by simp [hr]⟩

/-- The flags written alone. -/
theorem setF_frame (f : Flags) (n : Nat) :
    OnlyRegisters s ((u.setF f).took n) ∧ SameRegsBut [] s ((u.setF f).took n) ∧
    ((u.setF f).took n).regs.sp = s.regs.sp :=
  ⟨hu.of_eq_right rfl, SameRegsBut.nil hr rfl, by simp [hr]⟩

end

end Sys2Proof.Machine
end

section
/-! SUPPORT. The frames by family of instructions (`10_state.md` R25-R27): the 8-bit destinations. -/

namespace Sys2Proof.Machine

/-- R230, R231, R233, R331, R332: the loads of a register, RES and SET write it and no flag. -/
theorem exec_loadReg_frame {s t : State} {x : R8} {i : Instr}
    (hi : (∃ y, i = rowLd8 (.reg x) y) ∨ (∃ n, i = rowLdImm8 (.reg x) n) ∨ (∃ b, i = rowRes b (.reg x)) ∨
      ∃ b, i = rowSet b (.reg x)) (h : exec i s = .next t) :
    OnlyRegisters s t ∧ SameRegsBut [x] s t ∧ t.regs.sp = s.regs.sp ∧ t.regs.f = s.regs.f := by
  rcases hi with ⟨y, rfl⟩ | ⟨n, rfl⟩ | ⟨b, rfl⟩ | ⟨b, rfl⟩
  · rw [exec_ld (dst := .reg x) nofun] at h
    obtain ⟨-, -, rfl⟩ := opLd_eq_next h
    exact set8_frame (.afterOperand s y) (s.afterOperand_regs y) _ _ _
  · rw [exec_ldImm] at h
    obtain ⟨-, rfl⟩ := opLdImm_eq_next h
    exact set8_frame (.refl s) rfl _ _ _
  · rw [exec_res] at h
    obtain ⟨-, rfl⟩ := opRes_eq_next h
    exact set8_frame (.refl s) rfl _ _ _
  · rw [exec_set] at h
    obtain ⟨-, rfl⟩ := opSet_eq_next h
    exact set8_frame (.refl s) rfl _ _ _

/-- R270, R272: INC and DEC of a register keep C. -/
theorem exec_incDecReg_frame {s t : State} {x : R8} {i : Instr} (hi : i = rowInc8 (.reg x) ∨ i = rowDec8 (.reg x))
    (h : exec i s = .next t) :
    OnlyRegisters s t ∧ SameRegsBut [x] s t ∧ t.regs.sp = s.regs.sp ∧ t.regs.f.c = s.regs.f.c := by
  rcases hi with rfl | rfl
  · rw [exec_inc8] at h
    obtain ⟨-, rfl⟩ := opInc_eq_next h
    obtain ⟨honly, hregs, hsp⟩ := set8_setF_frame (.refl s) rfl x (s.operand (.reg x) + 1) _ _
    exact ⟨honly, hregs, hsp, by simp [State.setOperand, incFlags]⟩
  · rw [exec_dec8] at h
    obtain ⟨-, rfl⟩ := opDec_eq_next h
    obtain ⟨honly, hregs, hsp⟩ := set8_setF_frame (.refl s) rfl x (s.operand (.reg x) - 1) _ _
    exact ⟨honly, hregs, hsp, by simp [State.setOperand, decFlags]⟩

theorem exec_rotReg_frame {s t : State} {x : R8} {op : RotOp} (h : exec (rowRot op (.reg x)) s = .next t) :
    OnlyRegisters s t ∧ SameRegsBut [x] s t ∧ t.regs.sp = s.regs.sp := by
  rw [exec_rot] at h
  obtain ⟨-, rfl⟩ := opRot_eq_next h
  exact set8_setF_frame (.refl s) rfl _ _ _ _

/-- R330: BIT writes the flags alone and keeps C. -/
theorem exec_bit_frame {s t : State} {b : Fin 8} {o : Operand8} (h : exec (rowBit b o) s = .next t) :
    OnlyRegisters s t ∧ SameRegsBut [] s t ∧ t.regs.sp = s.regs.sp ∧ t.regs.f.c = s.regs.f.c := by
  rw [exec_bit] at h
  obtain ⟨-, rfl⟩ := opBit_eq_next h
  obtain ⟨honly, hregs, hsp⟩ := setF_frame (.afterOperand s o) (s.afterOperand_regs o) _ _
  exact ⟨honly, hregs, hsp, rfl⟩

/-- R232, R234, R331, R332: the stores to (HL), RES and SET of it write no register. -/
theorem exec_storeHL_frame {s t : State} {i : Instr}
    (hi : (∃ y, i = rowLd8 .atHL (.reg y)) ∨ (∃ n, i = rowLdImm8 .atHL n) ∨ (∃ b, i = rowRes b .atHL) ∨
      ∃ b, i = rowSet b .atHL) (h : exec i s = .next t) :
    OnlyStores [s.regs.hl] s t ∧ t.regs = s.regs := by
  rcases hi with ⟨y, rfl⟩ | ⟨n, rfl⟩ | ⟨b, rfl⟩ | ⟨b, rfl⟩
  · rw [exec_ld (src := .reg y) fun _ => nofun] at h
    obtain ⟨-, -, rfl⟩ := opLd_eq_next h
    exact ⟨.of_eq_right rfl (.poke s _ _), by simp⟩
  · rw [exec_ldImm] at h
    obtain ⟨-, rfl⟩ := opLdImm_eq_next h
    exact ⟨.of_eq_right rfl (.poke s _ _), by simp⟩
  · rw [exec_res] at h
    obtain ⟨-, rfl⟩ := opRes_eq_next h
    exact ⟨.of_eq_right rfl (.modifyAtHL s _), by simp⟩
  · rw [exec_set] at h
    obtain ⟨-, rfl⟩ := opSet_eq_next h
    exact ⟨.of_eq_right rfl (.modifyAtHL s _), by simp⟩

/-- R110: the operand (HL) read and written, then the flags. -/
theorem modifyAtHL_setF_frame (s : State) (v : Byte) (f : Flags) (n : Nat) {t : State}
    (ht : t = (((s.afterOperand .atHL).setOperand .atHL v).setF f).took n) :
    OnlyStores [s.regs.hl] s t ∧ SameRegsBut [] s t ∧ t.regs.sp = s.regs.sp := by
  subst ht
  have hr : ((s.afterOperand .atHL).setOperand .atHL v).regs = s.regs := by simp
  exact ⟨.of_eq_right rfl (.modifyAtHL s v), .nil hr rfl, by simp⟩

/-- R271, R273: INC and DEC of (HL) keep C. -/
theorem exec_incDecHL_frame {s t : State} {i : Instr} (hi : i = rowInc8 .atHL ∨ i = rowDec8 .atHL)
    (h : exec i s = .next t) :
    OnlyStores [s.regs.hl] s t ∧ SameRegsBut [] s t ∧ t.regs.sp = s.regs.sp ∧ t.regs.f.c = s.regs.f.c := by
  rcases hi with rfl | rfl
  · rw [exec_inc8] at h
    obtain ⟨-, ht⟩ := opInc_eq_next h
    obtain ⟨honly, hregs, hsp⟩ := modifyAtHL_setF_frame s _ _ _ ht
    exact ⟨honly, hregs, hsp, by simp [ht, incFlags]⟩
  · rw [exec_dec8] at h
    obtain ⟨-, ht⟩ := opDec_eq_next h
    obtain ⟨honly, hregs, hsp⟩ := modifyAtHL_setF_frame s _ _ _ ht
    exact ⟨honly, hregs, hsp, by simp [ht, decFlags]⟩

theorem exec_rotHL_frame {s t : State} {op : RotOp} (h : exec (rowRot op .atHL) s = .next t) :
    OnlyStores [s.regs.hl] s t ∧ SameRegsBut [] s t ∧ t.regs.sp = s.regs.sp := by
  rw [exec_rot] at h
  obtain ⟨-, ht⟩ := opRot_eq_next h
  exact modifyAtHL_setF_frame s _ _ _ ht

/-- Settles O50: one frame lemma per group, each from the group's inversion lemmas. -/
theorem frameByteForms : Obligations.FrameByteForms :=
  ⟨fun _ _ _ _ => exec_loadReg_frame, fun _ _ _ _ => exec_incDecReg_frame, fun _ _ _ _ => exec_rotReg_frame,
    fun _ _ _ _ => exec_bit_frame, fun _ _ _ => exec_storeHL_frame, fun _ _ _ => exec_incDecHL_frame,
    fun _ _ _ => exec_rotHL_frame⟩

end Sys2Proof.Machine
end

section
/-! SUPPORT. The frames by family of instructions (`10_state.md` R25-R27): the destinations A, F and the pairs. -/

namespace Sys2Proof.Machine

/-! ## A and the flags -/

/-- R281-R288: an ALU operation writes A and the flags. -/
theorem exec_alu_frame {s t : State} {i : Instr} (hi : (∃ op o, i = rowAlu op o) ∨ ∃ op n, i = rowAluImm op n)
    (h : exec i s = .next t) : OnlyRegisters s t ∧ SameRegsBut [.a] s t ∧ t.regs.sp = s.regs.sp := by
  rcases hi with ⟨op, o, rfl⟩ | ⟨op, n, rfl⟩
  · rw [exec_alu] at h
    obtain ⟨-, rfl⟩ := opAlu_eq_next h
    exact set8_setF_frame (.afterOperand s o) (s.afterOperand_regs o) .a _ _ _
  · rw [exec_aluImm] at h
    cases h
    exact set8_setF_frame (.refl s) rfl .a _ _ _

/-- R288: CP writes A with its own value. -/
theorem aluApply_cp (v : Byte) (s : State) : aluApply .cp v s = s.setF (subFlags s.regs.a v false).2 := rfl

theorem exec_cp_frame {s t : State} {i : Instr} (hi : (∃ o, i = rowAlu .cp o) ∨ ∃ n, i = rowAluImm .cp n)
    (h : exec i s = .next t) : SameRegsBut [] s t := by
  rcases hi with ⟨o, rfl⟩ | ⟨n, rfl⟩
  · rw [exec_alu] at h
    obtain ⟨-, rfl⟩ := opAlu_eq_next h
    rw [aluApply_cp]
    exact .nil (s.afterOperand_regs o) rfl
  · rw [exec_aluImm] at h
    cases h
    exact .nil (u := s) rfl rfl

/-- R340-R345: the accumulator rotates, DAA and CPL write A and the flags. -/
theorem exec_accumulator_frame {s t : State} {i : Instr} (hi : i ∈ [.rlca, .rrca, .rla, .rra, .daa, .cpl])
    (h : exec i s = .next t) : OnlyRegisters s t ∧ SameRegsBut [.a] s t ∧ t.regs.sp = s.regs.sp := by
  simp only [List.mem_cons, List.not_mem_nil, or_false] at hi
  rcases hi with rfl | rfl | rfl | rfl | rfl | rfl <;> cases h <;> exact set8_setF_frame (.refl s) rfl .a _ _ _

/-- R346, R347: SCF and CCF write the flags and keep Z. -/
theorem exec_carry_frame {s t : State} {i : Instr} (hi : i ∈ [.scf, .ccf]) (h : exec i s = .next t) :
    OnlyRegisters s t ∧ SameRegsBut [] s t ∧ t.regs.sp = s.regs.sp ∧ t.regs.f.z = s.regs.f.z := by
  simp only [List.mem_cons, List.not_mem_nil, or_false] at hi
  rcases hi with rfl | rfl <;> cases h <;>
    exact ⟨.of_eq_right rfl (.refl s), .nil (u := s) rfl rfl, rfl, rfl⟩

/-- R345: CPL keeps Z and C. -/
theorem exec_cpl_flags {s t : State} (h : exec .cpl s = .next t) :
    t.regs.f.z = s.regs.f.z ∧ t.regs.f.c = s.regs.f.c := by
  cases h
  exact ⟨rfl, rfl⟩

/-- R344: DAA keeps N. -/
theorem exec_daa_flags {s t : State} (h : exec .daa s = .next t) : t.regs.f.n = s.regs.f.n := by
  cases h
  rfl

/-! ## Loads of A -/

theorem opLoadA_frame {a : Word} {n : Nat} {s t : State} (h : opLoadA a n s = .next t) :
    OnlyRegisters s t ∧ SameRegsBut [.a] s t ∧ t.regs.sp = s.regs.sp ∧ t.regs.f = s.regs.f := by
  obtain ⟨-, rfl⟩ := opLoadA_eq_next h
  exact set8_frame (.afterRead s a) (s.afterRead_regs a) .a _ _

/-- R236, R239, R240: the loads through a pair; HL moves in the (HL+) and (HL-) forms. -/
theorem opLoadIndirect_frame {k : IndirectA} {s t : State} (h : opLoadIndirect k s = .next t) :
    OnlyRegisters s t ∧ SameRegsBut [.a, .h, .l] s t ∧ t.regs.sp = s.regs.sp ∧ t.regs.f = s.regs.f := by
  obtain ⟨-, rfl⟩ := opLoadIndirect_eq_next h
  have hread := OnlyRegisters.afterRead s (indirectAddr k s.regs)
  have ha : SameRegsBut [.a] s ((s.afterRead (indirectAddr k s.regs)).setA (s.peek (indirectAddr k s.regs))) :=
    .set8 (s.afterRead_regs _) rfl
  exact ⟨((hread.of_eq_right rfl).indirectStep k).of_eq_right rfl, ha.indirectStep k, by simp, by simp⟩

/-- R236, R246, R301, R303: the other loads of A leave HL. -/
theorem exec_loadA_frame {s t : State} {i : Instr}
    (hi : (∃ a, i = .ld_a_atA16 a) ∨ (∃ n, i = .ldh_a_atA8 n) ∨ i = .ld_a_atC ∨ i = .ld_a_atBC ∨ i = .ld_a_atDE)
    (h : exec i s = .next t) :
    OnlyRegisters s t ∧ SameRegsBut [.a] s t ∧ t.regs.sp = s.regs.sp ∧ t.regs.f = s.regs.f := by
  rcases hi with ⟨a, rfl⟩ | ⟨n, rfl⟩ | rfl | rfl | rfl <;> exact opLoadA_frame h

theorem exec_loadHLMove_frame {s t : State} {i : Instr} (hi : i = .ld_a_atHLi ∨ i = .ld_a_atHLd)
    (h : exec i s = .next t) :
    OnlyRegisters s t ∧ SameRegsBut [.a, .h, .l] s t ∧ t.regs.sp = s.regs.sp ∧ t.regs.f = s.regs.f := by
  rcases hi with rfl | rfl
  · exact opLoadIndirect_frame (k := .hli) h
  · exact opLoadIndirect_frame (k := .hld) h

/-! ## Pairs -/

/-- A pair of R111 written, no flag. -/
theorem set16_frame (s : State) (r : R16) (v : Word) (n : Nat) :
    OnlyRegisters s ((s.set16 r v).took n) ∧ SameRegsBut (halves r) s ((s.set16 r v).took n) ∧
    (r ≠ .sp → ((s.set16 r v).took n).regs.sp = s.regs.sp) ∧ ((s.set16 r v).took n).regs.f = s.regs.f :=
  ⟨.of_eq rfl, .set16 (u := s) rfl rfl, Regs.set16_sp s.regs v, s.regs.set16_f r v⟩

/-- R241, R274, R275. -/
theorem exec_pair_frame {s t : State} {r : R16} {i : Instr}
    (hi : (∃ v, i = rowLdImm16 r v) ∨ i = rowInc16 r ∨ i = rowDec16 r) (h : exec i s = .next t) :
    OnlyRegisters s t ∧ SameRegsBut (halves r) s t ∧ (r ≠ .sp → t.regs.sp = s.regs.sp) ∧
    t.regs.f = s.regs.f := by
  rcases hi with ⟨v, rfl⟩ | rfl | rfl
  · rw [exec_ldImm16] at h; cases h; exact set16_frame s r _ _
  · rw [exec_inc16] at h; cases h; exact set16_frame s r _ _
  · rw [exec_dec16] at h; cases h; exact set16_frame s r _ _

/-- R290: ADD HL writes HL and the flags, and keeps Z. -/
theorem exec_addHL_frame {s t : State} {r : R16} (h : exec (rowAddHL r) s = .next t) :
    OnlyRegisters s t ∧ SameRegsBut [.h, .l] s t ∧ t.regs.sp = s.regs.sp ∧ t.regs.f.z = s.regs.f.z := by
  rw [exec_addHL] at h
  cases h
  exact ⟨.of_eq rfl, .set16 (u := s) (x := .hl) rfl rfl, rfl, rfl⟩

theorem exec_ldHLSP_frame {s t : State} {n : Byte} (h : exec (.ld_hl_spE8 n) s = .next t) :
    OnlyRegisters s t ∧ SameRegsBut [.h, .l] s t ∧ t.regs.sp = s.regs.sp := by
  cases h
  exact ⟨.of_eq rfl, .set16 (u := s) (x := .hl) rfl rfl, rfl⟩

theorem exec_addSP_frame {s t : State} {n : Byte} (h : exec (.add_sp_e8 n) s = .next t) :
    OnlyRegisters s t ∧ SameRegsBut [] s t := by
  cases h
  exact ⟨.of_eq rfl, .nil (u := s) rfl rfl⟩

theorem exec_ldSPHL_frame {s t : State} (h : exec .ld_sp_hl s = .next t) :
    OnlyRegisters s t ∧ SameRegsBut [] s t ∧ t.regs.f = s.regs.f := by
  cases h
  exact ⟨.of_eq rfl, .nil (u := s) rfl rfl, rfl⟩

/-- Settles O51: one frame lemma per group. -/
theorem frameAccumulatorAndPairs : Obligations.FrameAccumulatorAndPairs :=
  ⟨fun _ _ _ => exec_alu_frame, fun _ _ _ => exec_cp_frame, fun _ _ _ => exec_accumulator_frame,
    fun _ _ _ => exec_carry_frame, fun _ _ => exec_cpl_flags, fun _ _ => exec_daa_flags, fun _ _ _ => exec_loadA_frame,
    fun _ _ _ => exec_loadHLMove_frame, fun _ _ _ _ => exec_pair_frame, fun _ _ _ => exec_addHL_frame,
    fun _ _ _ => exec_ldHLSP_frame, fun _ _ _ => exec_addSP_frame, fun _ _ => exec_ldSPHL_frame⟩

end Sys2Proof.Machine
end

section
/-! SUPPORT. The frames by family of instructions (`10_state.md` R25-R27): the stores of A and SP, the stack and the
control instructions. -/

namespace Sys2Proof.Machine

/-! ## Stores of A and SP -/

/-- R245, R300, R302: A to an address writes no register. -/
theorem opStoreA_frame {a : Word} {n : Nat} {s t : State} (h : opStoreA a n s = .next t) :
    OnlyStores [a] s t ∧ t.regs = s.regs := by
  obtain ⟨-, rfl⟩ := opStoreA_eq_next h
  exact ⟨.of_eq_right rfl (.poke s a _), by simp⟩

/-- R235, R237, R238: A through a pair; HL moves in the (HL+) and (HL-) forms alone. -/
theorem exec_storeIndirect_frame {k : IndirectA} {s t : State} (h : exec (rowStoreA k) s = .next t) :
    OnlyStores [indirectAddr k s.regs] s t ∧ SameRegsBut [.h, .l] s t ∧ t.regs.sp = s.regs.sp ∧
    t.regs.f = s.regs.f ∧ (k = .bc ∨ k = .de → t.regs = s.regs) := by
  rw [exec_storeIndirect] at h
  obtain ⟨-, rfl⟩ := opStoreIndirect_eq_next h
  have hstore := OnlyStores.poke s (indirectAddr k s.regs) s.regs.a
  have hregs : SameRegsBut [] s (s.poke (indirectAddr k s.regs) s.regs.a) := .nil (s.poke_regs _ _) rfl
  refine ⟨(hstore.indirectStep k).of_eq_right rfl, hregs.indirectStep k, by simp, by simp, ?_⟩
  rintro (rfl | rfl) <;> exact s.poke_regs _ _

/-- R242: the two bytes of SP. -/
theorem exec_storeSP_frame {s t : State} {a : Word} (h : exec (.ld_atA16_sp a) s = .next t) :
    OnlyStores [a, a + 1] s t ∧ t.regs = s.regs := by
  obtain ⟨u, hu, ht⟩ := andThen_eq_next h
  obtain ⟨-, -, rfl⟩ := memWrite16_eq_next hu
  cases ht
  exact ⟨.of_eq_right rfl ((OnlyStores.poke s a _).trans (.poke _ (a + 1) _)), by simp⟩

/-- Settles O52: the two shared operations that store A, and the store of SP. -/
theorem frameStores : Obligations.FrameStores :=
  ⟨fun _ _ _ => exec_storeIndirect_frame, fun _ _ _ => opStoreA_frame, fun _ _ _ => opStoreA_frame,
    fun _ _ => opStoreA_frame, fun _ _ _ => exec_storeSP_frame⟩

/-! ## The stack -/

/-- R260: after the two stores of a push nothing but PC and the cycle count is written. -/
theorem pushed_frame {s t : State} {v : Word}
    (ht : t = { s.pushed v with pc := t.pc, stepCycles := t.stepCycles }) :
    OnlyStores [s.regs.sp - 1, s.regs.sp - 2] s t ∧ SameRegsBut [] s t ∧ t.regs.f = s.regs.f ∧
    t.regs.sp = s.regs.sp - 2 := by
  have hregs : t.regs = { s.regs with sp := s.regs.sp - 2 } := by rw [ht]; simp [State.pushed]
  refine ⟨.of_eq_right ?_ (.pushed s v), .nil (u := s) rfl hregs, by rw [hregs], by rw [hregs]⟩
  rw [ht]

/-- R260: a pop moves SP and the `draw()` counter; then PC and the cycle count are written. -/
theorem popped_frame {s t : State} (ht : t = { s.popped with pc := t.pc, stepCycles := t.stepCycles }) :
    OnlyRegisters s t ∧ SameRegsBut [] s t ∧ t.regs.f = s.regs.f := by
  have hregs : t.regs = { s.regs with sp := s.regs.sp + 2 } := by rw [ht, s.popped_eq]
  refine ⟨.of_eq_right ?_ (.popped s), .nil (u := s) rfl hregs, by rw [hregs]⟩
  rw [ht]

/-- R215, R216, R220, R261: the instructions that push. -/
theorem exec_push_frame {s t : State} {i : Instr}
    (hi : (∃ r, i = rowPush r) ∨ (∃ a, i = .call_a16 a) ∨
      (∃ cc a, i = rowCallCond cc a ∧ condHolds cc s.regs.f = true) ∨ ∃ y, i = rowRst y) (h : exec i s = .next t) :
    OnlyStores [s.regs.sp - 1, s.regs.sp - 2] s t ∧ SameRegsBut [] s t ∧ t.regs.f = s.regs.f ∧
    t.regs.sp = s.regs.sp - 2 := by
  rcases hi with ⟨r, rfl⟩ | ⟨a, rfl⟩ | ⟨cc, a, rfl, hcc⟩ | ⟨y, rfl⟩
  · rw [exec_push] at h
    obtain ⟨-, rfl⟩ := opPush_eq_next h
    exact pushed_frame rfl
  · obtain ⟨-, rfl⟩ := opCall_eq_next h
    exact pushed_frame rfl
  · rw [exec_callCond, opCallCond, if_pos hcc] at h
    obtain ⟨-, rfl⟩ := opCall_eq_next h
    exact pushed_frame rfl
  · rw [exec_rst] at h
    obtain ⟨-, rfl⟩ := opCall_eq_next h
    exact pushed_frame rfl

/-- R216: a call not taken. -/
theorem exec_callNotTaken_frame {s t : State} {cc : Cond} {a : Word} (hcc : condHolds cc s.regs.f = false)
    (h : exec (rowCallCond cc a) s = .next t) : OnlyRegisters s t ∧ t.regs = s.regs ∧ t.pc = s.pc := by
  rw [exec_callCond, opCallCond, hcc] at h
  cases h
  exact ⟨.of_eq rfl, rfl, rfl⟩

/-- R262. -/
theorem exec_pop_frame {s t : State} {r : R16Stk} (h : exec (rowPop r) s = .next t) :
    OnlyRegisters s t ∧ SameRegsBut (halvesStk r) s t ∧ t.regs.sp = s.regs.sp + 2 ∧
    (r ≠ .af → t.regs.f = s.regs.f) := by
  rw [exec_pop] at h
  obtain ⟨-, rfl⟩ := opPop_eq_next h
  have hregs : s.popped.regs = { s.regs with sp := s.regs.sp + 2 } := by rw [s.popped_eq]
  refine ⟨.of_eq_right rfl (.popped s), fun y hy => ?_, ?_, fun hr => ?_⟩
  · refine (Regs.get8_setStk_other s.popped.regs s.popWord hy).trans ?_
    rw [hregs, Regs.get8_f_sp]
  · simp [hregs]
  · refine (Regs.setStk_f s.popped.regs s.popWord hr).trans ?_
    rw [hregs]

/-- R217, R218: RET, and RET cc taken or not. -/
theorem exec_ret_frame {s t : State} {i : Instr} (hi : i = .ret ∨ ∃ cc, i = rowRetCond cc) (h : exec i s = .next t) :
    OnlyRegisters s t ∧ SameRegsBut [] s t ∧ t.regs.f = s.regs.f := by
  rcases hi with rfl | ⟨cc, rfl⟩
  · obtain ⟨-, rfl⟩ := opRet_eq_next h
    exact popped_frame rfl
  · rw [exec_retCond, opRetCond] at h
    split at h
    · obtain ⟨-, rfl⟩ := opRet_eq_next h
      exact popped_frame rfl
    · cases h
      exact ⟨.of_eq rfl, .nil (u := s) rfl rfl, rfl⟩

/-- R219: RETI is a RET that sets IME and clears `ei_pending` as well. -/
theorem exec_reti_frame {s t : State} (h : exec .reti s = .next t) :
    OnlyRegisters { s with ime := true, eiPending := false } t ∧ SameRegsBut [] s t ∧ t.regs.f = s.regs.f := by
  obtain ⟨-, rfl⟩ := opReti_eq_next h
  rw [s.popped_eq]
  exact ⟨.of_eq rfl, .nil (u := s) rfl rfl, rfl⟩

/-! ## Control -/

/-- R200, R210-R214: NOP and the jumps, taken or not. -/
theorem exec_jump_frame {s t : State} {i : Instr}
    (hi : (∃ n, i = .jr_e8 n) ∨ (∃ cc n, i = rowJrCond cc n) ∨ (∃ a, i = .jp_a16 a) ∨ (∃ cc a, i = rowJpCond cc a) ∨
      i = .jp_hl ∨ i = .nop) (h : exec i s = .next t) : OnlyRegisters s t ∧ t.regs = s.regs := by
  rcases hi with ⟨n, rfl⟩ | ⟨cc, n, rfl⟩ | ⟨a, rfl⟩ | ⟨cc, a, rfl⟩ | rfl | rfl
  · cases h
    exact ⟨.of_eq rfl, rfl⟩
  · rw [exec_jrCond, opJrCond] at h
    split at h <;> cases h <;> exact ⟨.of_eq rfl, rfl⟩
  · cases h
    exact ⟨.of_eq rfl, rfl⟩
  · rw [exec_jpCond, opJpCond] at h
    split at h <;> cases h <;> exact ⟨.of_eq rfl, rfl⟩
  · cases h
    exact ⟨.of_eq rfl, rfl⟩
  · cases h
    exact ⟨.of_eq rfl, rfl⟩

theorem exec_stop_frame {s t : State} {n : Byte} (h : exec (.stop n) s = .next t) :
    OnlyRegisters { s with runState := .stopped } t ∧ t.regs = s.regs ∧ t.pc = s.pc := by
  cases h
  exact ⟨.of_eq rfl, rfl, rfl⟩

/-- R202: in each case that answers a state HALT sets `run_state`, the HALT bug, or nothing. -/
theorem exec_halt_frame {s t : State} (h : exec .halt s = .next t) :
    OnlyRegisters { s with runState := t.runState, haltBug := t.haltBug } t ∧ t.regs = s.regs ∧ t.pc = s.pc := by
  rcases opHalt_eq_next h with ⟨-, rfl⟩ | ⟨-, -, rfl⟩ | ⟨-, -, -, rfl⟩ <;> exact ⟨.of_eq rfl, rfl, rfl⟩

theorem exec_di_frame {s t : State} (h : exec .di s = .next t) :
    OnlyRegisters { s with ime := false, eiPending := false } t ∧ t.regs = s.regs ∧ t.pc = s.pc := by
  cases h
  exact ⟨.of_eq rfl, rfl, rfl⟩

theorem exec_ei_frame {s t : State} (h : exec .ei s = .next t) :
    OnlyRegisters { s with eiPending := true } t ∧ t.regs = s.regs ∧ t.pc = s.pc := by
  cases h
  exact ⟨.of_eq rfl, rfl, rfl⟩

/-- Settles O53: one frame lemma per group. -/
theorem frameStackAndControl : Obligations.FrameStackAndControl :=
  ⟨fun _ _ _ => exec_push_frame, fun _ _ _ _ => exec_callNotTaken_frame, fun _ _ _ => exec_pop_frame,
    fun _ _ _ => exec_ret_frame, fun _ _ => exec_reti_frame, fun _ _ _ => exec_jump_frame,
    fun _ _ _ => exec_stop_frame, fun _ _ => exec_halt_frame, fun _ _ => exec_di_frame, fun _ _ => exec_ei_frame⟩

end Sys2Proof.Machine
end

section
/-! SUPPORT. Stores to a DMA register (`10_state.md` R48, `60_exceptions.md` R401): the fault of every form that stores,
with what the instruction did before. -/

namespace Sys2Proof.Machine

/-- R48: the addresses of the DMA registers. -/
def IsDmaAddr (a : Word) : Prop := a.toNat = 0xFF46 ∨ 0xFF51 ≤ a.toNat ∧ a.toNat ≤ 0xFF55

/-- R400 (code 3), R401: the outcome of a step that stored to the DMA register `a` in the state `s`. -/
def dmaFault (a : Word) (s : State) : Res State :=
  .fault (.unmodelledDevice { s with faults := .unmodelledDevice a :: s.faults })

theorem memWrite_eq_dmaFault {a : Word} (h : IsDmaAddr a) (v : Byte) (s : State) : memWrite a v s = dmaFault a s :=
  memWrite_dma h v s

theorem andThen_dmaFault (a : Word) (s : State) (f : State → Res State) :
    andThen (dmaFault a s) f = dmaFault a s := rfl

/-! ## Stores of one byte -/

/-- R106: the high-page operand that names an address. -/
theorem highPage_eq {n : Byte} {a : Word} (h : 0xFF00 + n.toNat = a.toNat) : highPage n = a := by
  apply BitVec.eq_of_toNat_eq
  have := n.isLt
  simp [highPage, zext16]
  omega

theorem opStoreA_dma {a : Word} (h : IsDmaAddr a) (n : Nat) (s : State) : opStoreA a n s = dmaFault a s := by
  rw [opStoreA, memWrite_eq_dmaFault h, andThen_dmaFault]

/-- R232, R234, R235, R237, R238, R242, R245, R300, R302: the forms that store a byte they need not read, and the first
byte of LD (a16),SP. -/
theorem exec_store_dma {s : State} {a : Word} (h : IsDmaAddr a) {i : Instr}
    (hi : i = .ld_atA16_a a ∨ i = .ld_atA16_sp a ∨
        (s.regs.hl = a ∧ ((∃ y, i = rowLd8 .atHL (.reg y)) ∨ ∃ n, i = rowLdImm8 .atHL n)) ∨
        (∃ k, indirectAddr k s.regs = a ∧ i = rowStoreA k) ∨
        (∃ n : Byte, 0xFF00 + n.toNat = a.toNat ∧ i = .ldh_atA8_a n) ∨
        (0xFF00 + s.regs.c.toNat = a.toNat ∧ i = .ld_atC_a)) : exec i s = dmaFault a s := by
  rcases hi with rfl | rfl | ⟨rfl, ⟨y, rfl⟩ | ⟨n, rfl⟩⟩ | ⟨k, rfl, rfl⟩ | ⟨n, hn, rfl⟩ | ⟨hc, rfl⟩
  · exact opStoreA_dma h 4 s
  · show andThen (memWrite16 a _ s) _ = _
    rw [memWrite16, memWrite_eq_dmaFault h]
    rfl
  · rw [exec_ld (src := .reg y) fun _ => nofun]
    show andThen (memWrite s.regs.hl _ s) _ = _
    rw [memWrite_eq_dmaFault h]
    rfl
  · rw [exec_ldImm, opLdImm, writeOperand, memWrite_eq_dmaFault h, andThen_dmaFault]
  · rw [exec_storeIndirect, opStoreIndirect, memWrite_eq_dmaFault h, andThen_dmaFault]
  · rw [← highPage_eq hn] at h ⊢
    exact opStoreA_dma h 3 s
  · rw [← highPage_eq hc] at h ⊢
    exact opStoreA_dma h 2 s

/-! ## Read-modify-write forms -/

/-- The state after the read of a DMA register at HL, which takes a `draw()`. -/
theorem andThen_readOperand_dma {s : State} (h : IsDmaAddr s.regs.hl) (g : Byte × State → Res State) :
    andThen (readOperand .atHL s) g = g (s.peek s.regs.hl, { s with draws := s.draws + 1 }) := by
  obtain ⟨hread, hafter⟩ := read_dma h s
  rw [readOperand_eq (o := .atHL) hread, andThen_next, ← hafter]
  rfl

theorem andThen_writeOperand_dma {s : State} (h : IsDmaAddr s.regs.hl) (v : Byte) (g : State → Res State) :
    andThen (writeOperand .atHL v s) g = dmaFault s.regs.hl s := by
  rw [writeOperand, memWrite_eq_dmaFault h, andThen_dmaFault]

/-- R271, R273, R310, R331, R332: INC, DEC, the rotates, RES and SET of (HL). -/
theorem exec_modifyHL_dma {s : State} (h : IsDmaAddr s.regs.hl) {i : Instr}
    (hi : i = .inc_atHL ∨ i = .dec_atHL ∨ (∃ op, i = rowRot op .atHL) ∨ (∃ b, i = rowRes b .atHL) ∨
        ∃ b, i = rowSet b .atHL) : exec i s = dmaFault s.regs.hl { s with draws := s.draws + 1 } := by
  have hwrite := andThen_writeOperand_dma (s := { s with draws := s.draws + 1 }) h
  rcases hi with rfl | rfl | ⟨op, rfl⟩ | ⟨b, rfl⟩ | ⟨b, rfl⟩
  · exact (andThen_readOperand_dma h _).trans (hwrite _ _)
  · exact (andThen_readOperand_dma h _).trans (hwrite _ _)
  · rw [exec_rot, opRot, andThen_readOperand_dma h]
    exact hwrite _ _
  · rw [exec_res, opRes, andThen_readOperand_dma h]
    exact hwrite _ _
  · rw [exec_set, opSet, andThen_readOperand_dma h]
    exact hwrite _ _

/-! ## Stores of two bytes -/

/-- R242: LD (a16),SP whose second byte falls on a DMA register has stored its first. -/
theorem exec_storeSP_dma_second {s : State} {b : Word} (h : IsDmaAddr (b + 1)) (hw : s.canWrite b = true) :
    exec (.ld_atA16_sp b) s = dmaFault (b + 1) (s.poke b (loByte s.regs.sp)) := by
  show andThen (memWrite16 b _ s) _ = _
  rw [memWrite16, memWrite_eq _ hw, andThen_next, memWrite_eq_dmaFault h, andThen_dmaFault]

theorem push16_dma_first {s : State} (h : IsDmaAddr (s.regs.sp - 1)) (v : Word) :
    push16 v s = dmaFault (s.regs.sp - 1) (s.setSP (s.regs.sp - 1)) :=
  push16_eq_fault_first (memWrite_eq_dmaFault h _ _)

theorem push16_dma_second {s : State} (h : IsDmaAddr (s.regs.sp - 2)) (v : Word)
    (hw : s.canWrite (s.regs.sp - 1) = true) :
    push16 v s = dmaFault (s.regs.sp - 2) ((s.poke (s.regs.sp - 1) (hiByte v)).setSP (s.regs.sp - 2)) :=
  push16_eq_fault_second hw (memWrite_eq_dmaFault h _ _)

/-- R261, R401: where the push faults, PUSH faults so. -/
theorem exec_push_eq_fault {r : R16Stk} {s : State} {f : Fault} (h : push16 (s.regs.getStk r) s = .fault f) :
    exec (rowPush r) s = .fault f := by
  rw [exec_push, opPush, h, andThen_fault]

/-- R215, R216, R220, R261: every instruction that pushes faults as its push does. -/
theorem exec_pushing_eq_fault {s : State} {i : Instr} {v : Word} {f : Fault}
    (hi : (∃ r, i = rowPush r ∧ v = s.regs.getStk r) ∨ (∃ b, i = .call_a16 b ∧ v = s.pc) ∨
      (∃ cc b, i = rowCallCond cc b ∧ condHolds cc s.regs.f = true ∧ v = s.pc) ∨ ∃ y, i = rowRst y ∧ v = s.pc)
    (h : push16 v s = .fault f) : exec i s = .fault f := by
  rcases hi with ⟨r, rfl, rfl⟩ | ⟨b, rfl, rfl⟩ | ⟨cc, b, rfl, hcc, rfl⟩ | ⟨y, rfl, rfl⟩
  · exact exec_push_eq_fault h
  · exact exec_call_eq_fault (.inl ⟨b, rfl⟩) h
  · exact exec_call_eq_fault (.inr (.inl ⟨cc, b, rfl, hcc⟩)) h
  · exact exec_call_eq_fault (.inr (.inr ⟨y, rfl⟩)) h

/-- Settles O55: a lemma per way of storing: one byte, a byte read first, the second byte of SP, a push. -/
theorem storeFaults : Obligations.StoreFaults := by
  refine fun s a ha => ⟨fun i => exec_store_dma ha, fun i hi hl => ?_, fun b hb hw => ?_,
    fun i v hi => ⟨fun hsp => ?_, fun hsp hw => ?_⟩⟩
  · subst hl
    exact exec_modifyHL_dma ha hi
  · subst hb
    rw [exec_storeSP_dma_second ha hw, dmaFault, State.poke_faults]
    rfl
  · subst hsp
    exact exec_pushing_eq_fault hi (push16_dma_first ha v)
  · subst hsp
    refine (exec_pushing_eq_fault hi (push16_dma_second ha v hw)).trans ?_
    rw [State.setSP, State.poke_regs, State.poke_faults]
    rfl

end Sys2Proof.Machine
end

section
/-! SUPPORT. The byte accesses over the whole address space (`20_memory.md` R62-R67, R74, R75): the regions by their
bounds, ROM, the echo region's policies, read after write, and the frame of one access. -/

namespace Sys2Proof.Machine

/-! ## The regions (R62, R63) -/

theorem region_eq_iff (a : Word) (r : Region) : region a = r ↔ r.first ≤ a.toNat ∧ a.toNat ≤ r.last :=
  ⟨fun h => h ▸ region_bounds a, fun ⟨hfirst, hlast⟩ => region_eq_of_bounds hfirst hlast⟩

/-- Settles O18: each region by `region_eq_iff`; the first has no lower bound, the last is one address. -/
theorem regionTable_bounds : Obligations.RegionTable := fun a =>
  ⟨(region_eq_iff a .cartFixed).trans (and_iff_right (Nat.zero_le _)), region_eq_iff a _, region_eq_iff a _,
    region_eq_iff a _, region_eq_iff a _, region_eq_iff a _, region_eq_iff a _, region_eq_iff a _, region_eq_iff a _,
    region_eq_iff a _, (region_eq_iff a .ie).trans (and_comm.trans le_antisymm_iff.symm)⟩

/-! ## ROM and the boot-ROM overlay (R64, R65, R66) -/

/-- R62, R64: the overlay lies in the first of the two ROM regions. -/
theorem region_rom {a : Word} (h : a.toNat < 0x8000) :
    region a = .cartFixed ∨ region a = .cartSwitchable ∧ 0x0100 ≤ a.toNat := by
  simp only [region_eq_iff, Region.first, Region.last]
  omega

/-- R48: the DMA registers are I/O registers. -/
theorem isDma_of_region {a : Word} (h : region a ≠ .io) : isDma a = false := by
  simp [isDma, h]

/-- Settles O19: no access to ROM faults; in the switchable region the overlay's condition is false. -/
theorem romAndBootOverlay : Obligations.RomAndBootOverlay := by
  intro s a v h
  have hr : region a ≠ .echo ∧ region a ≠ .io := by
    rcases region_rom h with hr | ⟨hr, -⟩ <;> simp [hr]
  rw [memRead_eq (s.canRead_of_region hr.1), memWrite_of_region s v hr.1 (isDma_of_region hr.2)]
  rcases region_rom h with hr | ⟨hr, hlow⟩
  · simp [State.peek, State.afterRead, State.poke, drawnAt, hr]
  · have hover : ¬ (s.bootRomMapped = true ∧ a.toNat < 0x0100) := by omega
    simp [State.peek, State.afterRead, State.poke, drawnAt, hr, hover]

/-! ## The echo region (R67) -/

/-- R67: where the policy allows an access to an echo address, it is one to RAM at the policy's target. -/
theorem echo_access (s : State) {a : Word} (v : Byte) (hr : region a = .echo) (hp : s.params.echoPolicy ≠ .fault) :
    memRead a s = .next (s.ram.read (echoTarget s.params.echoPolicy a).toNat, s) ∧
    memWrite a v s = .next { s with ram := s.ram.write (echoTarget s.params.echoPolicy a).toNat v } := by
  have hres : s.restricted a = false := by simp [State.restricted, hp]
  rw [memRead_eq (by simp [State.canRead, hres]), memWrite_eq v (by simp [State.canWrite, hres, isDma, hr])]
  simp [State.peek, State.afterRead, State.poke, drawnAt, hr]

/-- R65, R66: an access to a work-RAM address is one to RAM at the address itself. -/
theorem wram_access (s : State) {a : Word} (v : Byte) (hr : region a = .wramFixed ∨ region a = .wramSwitchable) :
    memRead a s = .next (s.ram.read a.toNat, s) ∧ memWrite a v s = .next { s with ram := s.ram.write a.toNat v } := by
  have hne : region a ≠ .echo ∧ region a ≠ .io := by rcases hr with hr | hr <;> simp [hr]
  rw [memRead_eq (s.canRead_of_region hne.1), memWrite_of_region s v hne.1 (isDma_of_region hne.2)]
  rcases hr with hr | hr <;> simp [State.peek, State.afterRead, State.poke, drawnAt, hr]

/-- R67: the echo region less 0x2000 is the start of work RAM. -/
theorem echo_sub_bounds {a : Word} (hr : region a = .echo) :
    0xC000 ≤ (a - 0x2000).toNat ∧ (a - 0x2000).toNat ≤ 0xDDFF := by
  have hb := region_echo_bounds hr
  bv_omega

theorem region_echo_sub {a : Word} (hr : region a = .echo) :
    region (a - 0x2000) = .wramFixed ∨ region (a - 0x2000) = .wramSwitchable := by
  have hb := echo_sub_bounds hr
  simp only [region_eq_iff, Region.first, Region.last]
  omega

/-- R67: under MIRROR an access to the echo region is the access 0x2000 below. -/
theorem echo_mirror {s : State} {a : Word} (v : Byte) (hr : region a = .echo) (hp : s.params.echoPolicy = .mirror) :
    memRead a s = memRead (a - 0x2000) s ∧ memWrite a v s = memWrite (a - 0x2000) v s := by
  obtain ⟨hread, hwrite⟩ := echo_access s v hr (by simp [hp])
  obtain ⟨hread', hwrite'⟩ := wram_access s v (region_echo_sub hr)
  rw [hread, hwrite, hread', hwrite', hp]
  exact ⟨rfl, rfl⟩

/-- R67: under FLAT the echo region is storage of its own. -/
theorem echo_flat {s : State} {a : Word} (v : Byte) (hr : region a = .echo) (hp : s.params.echoPolicy = .flat) :
    memRead a s = .next (s.ram.read a.toNat, s) ∧ memWrite a v s = .next { s with ram := s.ram.write a.toNat v } := by
  obtain ⟨hread, hwrite⟩ := echo_access s v hr (by simp [hp])
  rw [hread, hwrite, hp]
  exact ⟨rfl, rfl⟩

/-- R67, R401: under FAULT every access to the echo region raises RestrictedAccess. -/
theorem echo_fault {s : State} {a : Word} (v : Byte) (hr : region a = .echo) (hp : s.params.echoPolicy = .fault) :
    memRead a s = raise (.restrictedAccess a) s ∧ memWrite a v s = raise (.restrictedAccess a) s := by
  have hres : s.restricted a = true := by simp [State.restricted, hr, hp]
  exact ⟨if_pos hres, if_pos hres⟩

/-- Settles O22: one lemma per policy. -/
theorem echoPolicies : Obligations.EchoPolicies := by
  intro s a v hfirst hlast
  have hr : region a = .echo := region_eq_of_bounds hfirst hlast
  refine ⟨fun hp => ?_, echo_flat v hr, echo_fault v hr⟩
  obtain ⟨hread, hwrite⟩ := echo_mirror v hr hp
  exact ⟨hread, hwrite, echo_sub_bounds hr⟩

/-! ## Read after write (R65, R66, R75) -/

/-- R39, R40, R41, R47: the I/O registers that read as last written. -/
theorem State.ioReg_of_readsBack {s : State} {a : Word} (h : s.readsBack a = true) (hr : region a = .io) :
    ioReg a = .storage ∨ ioReg a = .tima ∨ ioReg a = .tma ∨ ioReg a = .lcdc := by
  simp only [State.readsBack, hr] at h
  cases hq : ioReg a <;> simp_all

/-- R67: storage in the echo region is under MIRROR or FLAT. -/
theorem State.policy_of_readsBack {s : State} {a : Word} (h : s.readsBack a = true) (hr : region a = .echo) :
    s.params.echoPolicy ≠ .fault := by
  simpa [State.readsBack, hr] using h

theorem State.canWrite_of_readsBack {s : State} {a : Word} (h : s.readsBack a = true) : s.canWrite a = true := by
  have hres : ¬ (region a = .echo ∧ s.params.echoPolicy = .fault) := fun ⟨hr, hp⟩ => s.policy_of_readsBack h hr hp
  have hdma : ¬ (region a = .io ∧ ioReg a = .dma) := fun ⟨hr, hq⟩ => by
    simpa [hq] using s.ioReg_of_readsBack h hr
  simp [State.canWrite, State.restricted, isDma, hres, hdma]

/-- R74: no storage location reads as a `draw()`. -/
theorem State.drawnAt_of_readsBack {s : State} {a : Word} (h : s.readsBack a = true) : drawnAt a = false := by
  unfold drawnAt
  cases hr : region a <;> simp only
  case oam => simpa [State.readsBack, hr] using h
  case io => rcases s.ioReg_of_readsBack h hr with hq | hq | hq | hq <;> rw [hq] <;> rfl

/-- R75: the byte last stored, region by region. -/
theorem State.peek_poke_same {s : State} {a : Word} (v : Byte) (h : s.readsBack a = true) : (s.poke a v).peek a = v := by
  unfold State.poke State.peek
  cases hr : region a <;> simp only [Mem.read_write_same]
  case cartFixed | cartSwitchable => simp [State.readsBack, hr] at h
  case oam =>
    have ho : oamStored a = true := by simpa [State.readsBack, hr] using h
    simp [ho]
  case io =>
    rcases s.ioReg_of_readsBack h hr with hq | hq | hq | hq <;> simp [State.ioPoke, State.ioPeek, hq]

/-- Settles O20: the write and the read complete, the read takes no `draw()`, and its byte is `State.peek_poke_same`. -/
theorem readAfterWrite : Obligations.ReadAfterWrite := by
  intro s a v h
  have hw := s.canWrite_of_readsBack h
  have hr : (s.poke a v).canRead a = true := by
    rw [State.canRead_poke, State.canRead]
    exact (Bool.and_eq_true_iff.1 hw).1
  have hread : (s.poke a v).afterRead a = s.poke a v := by simp [State.afterRead, s.drawnAt_of_readsBack h]
  exact ⟨s.poke a v, memWrite_eq v hw, by rw [memRead_eq hr, State.peek_poke_same v h, hread]⟩

/-! ## The frame of one access (R65, R66, R74) -/

/-- R74: a read takes one `draw()` input at a location under no law, and none elsewhere. -/
theorem State.afterRead_eq_draws (s : State) (a : Word) :
    s.afterRead a = { s with draws := if drawnAt a then s.draws + 1 else s.draws } := by
  unfold State.afterRead
  split <;> rfl

/-- Settles O21: a read is `State.afterRead`, a write is `State.poke`, whose frame is `OnlyStores.poke`. -/
theorem accessFrame : Obligations.AccessFrame := by
  refine ⟨fun s t a v h => ?_, fun s t a v h => ?_⟩
  · obtain ⟨-, -, rfl⟩ := memRead_eq_next h
    exact s.afterRead_eq_draws a
  · obtain ⟨-, rfl⟩ := memWrite_eq_next h
    exact ⟨.poke s a v, s.poke_regs a v, s.poke_pc a v, s.poke_draws a v⟩

end Sys2Proof.Machine
end

section
/-! SUPPORT. The decoder and the encoder against each other (`30_encoding.md` R102-R106, R116-R124): each row of the
opcode maps is decoded back from its own bytes, and what the decoder consumed is what the encoder writes. -/

namespace Sys2Proof.Machine

/-! ## Decoding what the encoder writes -/

/-- R105: the instruction is decoded back from its bytes, whatever follows them. -/
def DecodesBack (i : Instr) : Prop := ∀ rest : List Byte, decode (encode i ++ rest) = .ok (i, rest)

/-- R105: a form with a byte operand is decoded back. -/
theorem decodesBack_of_byte {row : Byte → Instr} {op : Byte} (hencode : ∀ n, encode (row n) = [op, n])
    (hdecode : ∀ n rest, decode (op :: n :: rest) = .ok (row n, rest)) (n : Byte) : DecodesBack (row n) := by
  intro rest
  rw [hencode]
  exact hdecode n rest

/-- R69: a form with a word operand is decoded back because the word is its two bytes joined. -/
theorem decodesBack_of_word {row : Word → Instr} {op : Byte}
    (hencode : ∀ v, encode (row v) = [op, loByte v, hiByte v])
    (hdecode : ∀ lo hi rest, decode (op :: lo :: hi :: rest) = .ok (row (joinBytes hi lo), rest)) (v : Word) :
    DecodesBack (row v) := by
  intro rest
  rw [hencode]
  show decode (op :: loByte v :: hiByte v :: rest) = _
  rw [hdecode, joinBytes_hiByte_loByte]

/-! R113: the conditional forms, by the cc field. -/

theorem decodesBack_jrCond (cc : Cond) (n : Byte) : DecodesBack (rowJrCond cc n) := by
  cases cc <;> exact decodesBack_of_byte (fun _ => rfl) (fun _ _ => rfl) n

theorem decodesBack_jpCond (cc : Cond) (a : Word) : DecodesBack (rowJpCond cc a) := by
  cases cc <;> exact decodesBack_of_word (fun _ => rfl) (fun _ _ _ => rfl) a

theorem decodesBack_callCond (cc : Cond) (a : Word) : DecodesBack (rowCallCond cc a) := by
  cases cc <;> exact decodesBack_of_word (fun _ => rfl) (fun _ _ _ => rfl) a

theorem decodesBack_retCond (cc : Cond) : DecodesBack (rowRetCond cc) := by cases cc <;> exact fun _ => rfl

/-! R111, R112: the forms of a pair, by the rp field. -/

theorem decodesBack_ldImm16 (r : R16) (v : Word) : DecodesBack (rowLdImm16 r v) := by
  cases r <;> exact decodesBack_of_word (fun _ => rfl) (fun _ _ _ => rfl) v

theorem decodesBack_inc16 (r : R16) : DecodesBack (rowInc16 r) := by cases r <;> exact fun _ => rfl

theorem decodesBack_dec16 (r : R16) : DecodesBack (rowDec16 r) := by cases r <;> exact fun _ => rfl

theorem decodesBack_addHL (r : R16) : DecodesBack (rowAddHL r) := by cases r <;> exact fun _ => rfl

theorem decodesBack_push (r : R16Stk) : DecodesBack (rowPush r) := by cases r <;> exact fun _ => rfl

theorem decodesBack_pop (r : R16Stk) : DecodesBack (rowPop r) := by cases r <;> exact fun _ => rfl

theorem decodesBack_storeIndirect (k : IndirectA) : DecodesBack (rowStoreA k) := by cases k <;> exact fun _ => rfl

theorem decodesBack_loadIndirect (k : IndirectA) : DecodesBack (rowLoadA k) := by cases k <;> exact fun _ => rfl

/-! R110, R114, R115: the forms of an 8-bit operand, by the r field. -/

/-- R117: the slot LD (HL),(HL) is HALT's, which is decoded back too. -/
theorem decodesBack_ld (dst src : Operand8) : DecodesBack (rowLd8 dst src) := by
  rcases dst with (_ | _ | _ | _ | _ | _ | _) | _ <;> rcases src with (_ | _ | _ | _ | _ | _ | _) | _ <;>
    exact fun _ => rfl

theorem decodesBack_ldImm (dst : Operand8) (n : Byte) : DecodesBack (rowLdImm8 dst n) := by
  rcases dst with (_ | _ | _ | _ | _ | _ | _) | _ <;> exact decodesBack_of_byte (fun _ => rfl) (fun _ _ => rfl) n

theorem decodesBack_inc8 (o : Operand8) : DecodesBack (rowInc8 o) := by
  rcases o with (_ | _ | _ | _ | _ | _ | _) | _ <;> exact fun _ => rfl

theorem decodesBack_dec8 (o : Operand8) : DecodesBack (rowDec8 o) := by
  rcases o with (_ | _ | _ | _ | _ | _ | _) | _ <;> exact fun _ => rfl

theorem decodesBack_alu (op : AluOp) (o : Operand8) : DecodesBack (rowAlu op o) := by
  rcases o with (_ | _ | _ | _ | _ | _ | _) | _ <;> cases op <;> exact fun _ => rfl

theorem decodesBack_aluImm (op : AluOp) (n : Byte) : DecodesBack (rowAluImm op n) := by
  cases op <;> exact decodesBack_of_byte (fun _ => rfl) (fun _ _ => rfl) n

theorem decodesBack_rot (op : RotOp) (o : Operand8) : DecodesBack (rowRot op o) := by
  rcases o with (_ | _ | _ | _ | _ | _ | _) | _ <;> cases op <;> exact fun _ => rfl

/-! R106: the forms of a number, by the y field. -/

theorem decodesBack_rst (y : Fin 8) : DecodesBack (rowRst y) := by
  fin_cases y <;> exact fun _ => rfl

theorem decodesBack_bit (b : Fin 8) (o : Operand8) : DecodesBack (rowBit b o) := by
  rcases o with (_ | _ | _ | _ | _ | _ | _) | _ <;> fin_cases b <;> exact fun _ => rfl

theorem decodesBack_res (b : Fin 8) (o : Operand8) : DecodesBack (rowRes b o) := by
  rcases o with (_ | _ | _ | _ | _ | _ | _) | _ <;> fin_cases b <;> exact fun _ => rfl

theorem decodesBack_set (b : Fin 8) (o : Operand8) : DecodesBack (rowSet b o) := by
  rcases o with (_ | _ | _ | _ | _ | _ | _) | _ <;> fin_cases b <;> exact fun _ => rfl

/-- R121: an absent byte is decoded to its row. -/
theorem decodesBack_absent {op : Byte} (h : isAbsent op = true) : DecodesBack (decodeBase op 0 0) := by
  rcases isAbsent_cases h with rfl | rfl | rfl | rfl | rfl | rfl | rfl | rfl | rfl | rfl | rfl <;> exact fun _ => rfl

/-- R103-R106: every row but that of the lone byte 0xCB, family by family. -/
theorem decodesBack_of_wellFormed {i : Instr} (h : i.wellFormed = true) : DecodesBack i := by
  cases shape_of i with
  | nop | halt | di | ei | jpHL | ret | reti | ldSPHL | storeC | loadC | rlca | rrca | rla | rra | daa | cpl | scf
  | ccf =>
    exact fun _ => rfl
  | stop n | jr n | ldHLSP n | ldhStore n | ldhLoad n | addSP n =>
    exact decodesBack_of_byte (fun _ => rfl) (fun _ _ => rfl) n
  | jp a | call a | storeSP a | storeAbs a | loadAbs a =>
    exact decodesBack_of_word (fun _ => rfl) (fun _ _ _ => rfl) a
  | jrCond cc n => exact decodesBack_jrCond cc n
  | jpCond cc a => exact decodesBack_jpCond cc a
  | callCond cc a => exact decodesBack_callCond cc a
  | retCond cc => exact decodesBack_retCond cc
  | rst y => exact decodesBack_rst y
  | ld dst src => exact decodesBack_ld dst src
  | ldImm dst n => exact decodesBack_ldImm dst n
  | storeIndirect k => exact decodesBack_storeIndirect k
  | loadIndirect k => exact decodesBack_loadIndirect k
  | ldImm16 r v => exact decodesBack_ldImm16 r v
  | push r => exact decodesBack_push r
  | pop r => exact decodesBack_pop r
  | inc8 o => exact decodesBack_inc8 o
  | dec8 o => exact decodesBack_dec8 o
  | inc16 r => exact decodesBack_inc16 r
  | dec16 r => exact decodesBack_dec16 r
  | alu op o => exact decodesBack_alu op o
  | aluImm op n => exact decodesBack_aluImm op n
  | addHL r => exact decodesBack_addHL r
  | rot op o => exact decodesBack_rot op o
  | bit b o => exact decodesBack_bit b o
  | res b o => exact decodesBack_res b o
  | set b o => exact decodesBack_set b o
  | prefixed => exact absurd h (by decide)
  | absent op ha => exact decodesBack_absent ha

/-- Settles O2: by the families of instructions, each decoded back from the bytes its descriptor gives. -/
theorem decodeEncode : Obligations.DecodeEncode := fun _ rest h => decodesBack_of_wellFormed h rest

/-! ## Encoding what the decoder read -/

/-- R105, R126: the operand bytes of a base opcode's instruction are those the decoder put in. -/
theorem operands_decodeBase : ∀ op lo hi : Byte,
    (descriptor (decodeBase op lo hi)).operands =
      if operandCount op = 1 then [lo]
      else [loByte (joinBytes hi lo), hiByte (joinBytes hi lo)].take (operandCount op) := by
  intro op lo hi
  have hop : op = BitVec.ofNat 8 op.toNat := by simp
  have hlt : op.toNat < 256 := op.isLt
  generalize op.toNat = n at hop hlt
  subst hop
  interval_cases n <;> rfl

/-- R105: the bytes of a base opcode's instruction. -/
theorem encode_decodeBase {op : Byte} (hop : op ≠ prefixByte) (lo hi : Byte) :
    encode (decodeBase op lo hi) = op :: [lo, hi].take (operandCount op) := by
  obtain ⟨hext, hcode, -⟩ := descriptor_decodeBase op hop lo hi
  have htake : (descriptor (decodeBase op lo hi)).operands = [lo, hi].take (operandCount op) := by
    rw [operands_decodeBase, loByte_joinBytes, hiByte_joinBytes]
    split
    · next hc => rw [hc]; rfl
    · rfl
  rw [encode, hext, hcode, htake]
  rfl

/-- R104, R120: the bytes of an extended opcode's instruction. -/
theorem encode_decodeExt (op : Byte) : encode (decodeExt op) = [prefixByte, op] := by
  obtain ⟨hext, hcode, hlen⟩ := descriptor_decodeExt op
  have hnil : (descriptor (decodeExt op)).operands = [] := by
    rw [encode, hext] at hlen
    simpa using hlen
  rw [encode, hext, hcode, hnil]
  rfl

/-- R102-R105: what the decoder answers, and from which bytes: an extended opcode after 0xCB, or a base opcode and its
operand bytes. -/
theorem decode_eq_ok {bytes rest : List Byte} {i : Instr} (h : decode bytes = .ok (i, rest)) :
    (∃ op, i = decodeExt op ∧ bytes = prefixByte :: op :: rest) ∨
    ∃ op lo hi, op ≠ prefixByte ∧ i = decodeBase op lo hi ∧ bytes = op :: [lo, hi].take (operandCount op) ++ rest := by
  match bytes with
  | [] => exact nomatch h
  | op :: tail =>
    by_cases hop : op = prefixByte
    · match tail with
      | [] => simp [decode, hop] at h
      | op' :: tail' =>
        simp only [decode, if_pos hop, Except.ok.injEq, Prod.mk.injEq] at h
        obtain ⟨rfl, rfl⟩ := h
        exact .inl ⟨op', rfl, by rw [hop]⟩
    · simp only [decode, if_neg hop] at h
      right
      split at h
      · next hc => cases h; exact ⟨op, 0, 0, hop, rfl, by rw [hc]; rfl⟩
      · next n _ hc => cases h; exact ⟨op, n, 0, hop, rfl, by rw [hc]; rfl⟩
      · next lo hi _ hc => cases h; exact ⟨op, lo, hi, hop, rfl, by rw [hc]; rfl⟩
      · exact nomatch h

/-- R123: an instruction whose encoding is not the byte 0xCB alone is not that byte's row. -/
theorem wellFormed_of_encode_ne {i : Instr} (h : encode i ≠ [prefixByte]) : i.wellFormed = true :=
  decide_eq_true fun hi => h (by rw [hi]; rfl)

/-- Settles O3: by the two tables the decoder reads, the encoder writes back the bytes it consumed. -/
theorem encodeDecode : Obligations.EncodeDecode := by
  intro bytes rest i h
  rcases decode_eq_ok h with ⟨op, rfl, rfl⟩ | ⟨op, lo, hi, hop, rfl, rfl⟩
  · exact ⟨wellFormed_of_encode_ne (by rw [encode_decodeExt]; nofun), by rw [encode_decodeExt]; rfl⟩
  · refine ⟨wellFormed_of_encode_ne ?_, by rw [encode_decodeBase hop]⟩
    rw [encode_decodeBase hop]
    exact fun hcons => hop (List.head_eq_of_cons_eq hcons)

/-- Settles O1: the decoder evaluated on each word. -/
theorem decodeSampleWords : Obligations.DecodeSampleWords := by
  and_intros <;> rfl

end Sys2Proof.Machine
end

section
/-! SUPPORT. The kinds of a step (`30_encoding.md` R100) and the HALT bug along it (`10_state.md` R36,
`40_nop_stop_halt.md` R202, R203): only HALT sets it, and the next step is the fetch that ends it. -/

namespace Sys2Proof.Machine

/-! ## R100's case distinction -/

theorem State.stepKind_eq_halted_iff (s : State) : s.stepKind = .halted ↔ s.faults = [] ∧ s.runState = .halted := by
  unfold State.stepKind
  by_cases hf : s.faults = []
  · cases hr : s.runState <;> simp [hf, ite_eq_iff]
  · simp [hf]

theorem State.stepKind_eq_dispatch_iff (s : State) :
    s.stepKind = .dispatch ↔ s.faults = [] ∧ s.runState = .running ∧ s.ime = true ∧ s.pending ≠ 0 := by
  unfold State.stepKind
  by_cases hf : s.faults = []
  · cases hr : s.runState <;> simp [hf]
  · simp [hf]

theorem State.stepKind_eq_execute_iff (s : State) :
    s.stepKind = .execute ↔ s.faults = [] ∧ s.runState = .running ∧ ¬ (s.ime = true ∧ s.pending ≠ 0) := by
  unfold State.stepKind
  by_cases hf : s.faults = []
  · cases hr : s.runState <;> simp [hf]
  · simp [hf]

/-! ## The HALT bug's invariant -/

theorem State.haltBugWf_iff (s : State) :
    s.haltBugWf = true ↔ (s.haltBug = true → s.runState = .running ∧ s.ime = false ∧ s.eiPending = false) := by
  unfold State.haltBugWf
  cases s.haltBug <;> simp [and_assoc]

theorem State.haltBugWf_of_haltBug {s : State} (h : s.haltBug = false) : s.haltBugWf = true := by
  rw [State.haltBugWf_iff, h]
  exact nofun

/-- The devices touch none of the CPU's hidden state. -/
theorem haltBugWf_advanceDevices (s : State) : (advanceDevices s).haltBugWf = s.haltBugWf := by
  simp [State.haltBugWf]

/-- R100: with no EI pending, IME and `ei_pending` stay as the instruction left them. -/
theorem haltBugWf_finishInstr {s : State} (ei : Bool) (h : s.haltBugWf = true) :
    (finishInstr ei s).haltBugWf = true := by
  rw [State.haltBugWf_iff] at h ⊢
  intro hb
  obtain ⟨hrun, hime, hei⟩ := h hb
  simp [finishInstr, hrun, hime, hei]

theorem haltedStep_haltBug (s : State) : (haltedStep s).haltBug = s.haltBug := by
  unfold haltedStep
  split <;> rfl

theorem dispatch_haltBug {s t : State} (h : dispatch s = .next t) : t.haltBug = s.haltBug := by
  obtain ⟨-, rfl⟩ := dispatch_eq_next h
  simp [State.acknowledge]

/-- Settles O15: a halted step and a dispatch start without the HALT bug and do not set it; an instruction starts
without it because its fetch ended it, and only HALT sets it again, with IME 0 and no EI pending. -/
theorem stepKeepsHaltBug : Obligations.StepKeepsHaltBug := by
  intro s t hs h
  rw [State.haltBugWf_iff] at hs
  rcases step_eq_next h with ⟨hk, rfl⟩ | ⟨hk, u, hd, rfl⟩ | ⟨hk, i, u, v, hf, he, rfl⟩
  · obtain ⟨-, hrun⟩ := s.stepKind_eq_halted_iff.1 hk
    have hb : s.haltBug = false := Bool.eq_false_iff.2 fun hb => by
      obtain ⟨hrunning, -, -⟩ := hs hb
      exact nomatch hrun.symm.trans hrunning
    rw [haltBugWf_advanceDevices]
    exact State.haltBugWf_of_haltBug ((haltedStep_haltBug s).trans hb)
  · obtain ⟨-, -, hime, -⟩ := s.stepKind_eq_dispatch_iff.1 hk
    have hb : s.haltBug = false := Bool.eq_false_iff.2 fun hb => by
      obtain ⟨-, hoff, -⟩ := hs hb
      exact nomatch hime.symm.trans hoff
    rw [haltBugWf_advanceDevices]
    exact State.haltBugWf_of_haltBug ((dispatch_haltBug hd).trans hb)
  · obtain ⟨-, hrun, -⟩ := s.stepKind_eq_execute_iff.1 hk
    obtain ⟨-, hbu, -, -, hru⟩ := fetchInstr_reach hf
    rw [haltBugWf_advanceDevices]
    refine haltBugWf_finishInstr _ ?_
    rcases exec_haltBug he with hb | ⟨-, -, hrv, hime, hei⟩
    · exact State.haltBugWf_of_haltBug (hb.trans hbu)
    · exact v.haltBugWf_iff.2 fun _ => ⟨(hrv.trans hru).trans hrun, hime, hei⟩

end Sys2Proof.Machine
end

section
/-! SUPPORT. The step by what its fetch answers (`30_encoding.md` R100-R102, R121): the instruction it then runs, or the
fault it ends with; and the steps that fetch nothing. -/

namespace Sys2Proof.Machine

/-! ## A step by its kind (R100) -/

theorem step_of_faults {s : State} (h : s.faults ≠ []) : step s = .fault (.alreadyFaulted s) := by
  simp [step, State.stepKind, h]

/-- R100: the step that executes, from what its fetch answers. -/
theorem step_of_fetchInstr {s u : State} {i : Instr} (hk : s.stepKind = .execute) (hf : fetchInstr s = .next (i, u)) :
    step s = andThen (exec i u) fun t => .next (advanceDevices (finishInstr s.eiPending t)) := by
  simp only [step, hk, hf, andThen_next]

/-- R100, R401: a fault of the fetch ends the step. -/
theorem step_of_fetchInstr_fault {s : State} {f : Fault} (hk : s.stepKind = .execute) (hf : fetchInstr s = .fault f) :
    step s = .fault f := by
  simp only [step, hk, hf, andThen_fault]

theorem haltedStep_eq {s : State} (h : s.runState = .halted) :
    haltedStep s = { s with runState := if s.pending = 0 then .halted else .running, stepCycles := 1 } := by
  unfold haltedStep
  split
  · rw [← h]; rfl
  · rfl

/-- Settles O8: R100's case distinction in each case; the halted step is R414's. -/
theorem stepsWithoutInstruction : Obligations.StepsWithoutInstruction := by
  refine ⟨fun s => step_of_faults, fun s hf hr => ?_, fun s hf hr => ?_⟩
  · simp [step, State.stepKind, hf, hr]
  · simp only [step, s.stepKind_eq_halted_iff.2 ⟨hf, hr⟩, haltedStep_eq hr]
    rfl

/-! ## The step of a decoded instruction -/

/-- Settles O5: the fetch is `fetchInstr_spec`, with PC kept by the HALT bug. -/
theorem haltBugStep : Obligations.HaltBugStep := by
  intro s i rest hk hb hd hrs hr hn
  have hf := fetchInstr_spec (i := i) (rest := rest) (by rwa [hb]) hr (by rwa [hb]) hn
  rw [hb] at hf
  exact step_of_fetchInstr hk hf

/-- R102: an instruction has its opcode byte and perhaps others. -/
theorem exists_length_encode (i : Instr) : ∃ n, (encode i).length = n + 1 := by
  simp [encode, ← add_assoc]

/-- R101: the reads of a fetch leave the HALT bug as it was, so without one there is none to end. -/
theorem State.fetched_eq {s : State} (hb : s.haltBug = false) (n : Nat) (a pc opAddr : Word) :
    ({ s.afterReads n a with pc := pc, opAddr := opAddr, haltBug := false } : State) =
      { s.afterReads n a with pc := pc, opAddr := opAddr } := by
  rw [s.afterReads_eq n a, ← hb]

/-- R101, R102: the fetch without the HALT bug, its reads and PC counted from the opcode byte on. -/
theorem fetchInstr_decoded {s : State} {i : Instr} {rest : List Byte} (hb : s.haltBug = false)
    (hd : decode (s.bytesAt 3 s.pc) = .ok (i, rest)) (hrs : s.canReads (encode i).length s.pc = true)
    (hn : (descriptor i).extended = false ∧ isAbsent (descriptor i).opcode = true ∨
      s.refuses (descriptor i).extended (descriptor i).opcode = false) :
    fetchInstr s = .next (i, { s.afterReads (encode i).length s.pc with
      pc := s.pc + BitVec.ofNat 16 (encode i).length, opAddr := s.pc }) := by
  rw [decode_bytesAt_fetched hb] at hd
  obtain ⟨n, hlen⟩ := exists_length_encode i
  rw [hlen] at hrs
  obtain ⟨hr, hrs⟩ := State.canReads_succ hrs
  have hpc : s.pc + BitVec.ofNat 16 (n + 1) = s.pc + 1 + BitVec.ofNat 16 n := by
    rw [BitVec.add_assoc, Nat.add_comm, BitVec.ofNat_add]
    rfl
  rw [fetchInstr_spec hd hr (by rwa [hb, hlen]) hn, hb, hlen, Nat.add_sub_cancel, ← State.fetched_eq hb, hpc]
  rfl

/-- Settles O4: what the fetch answers is `fetchInstr_decoded`. -/
theorem stepRunsDecoded : Obligations.StepRunsDecoded := by
  intro s i rest hk hb hd hrs hn
  exact step_of_fetchInstr hk (fetchInstr_decoded hb hd hrs hn)

/-! ## The fetch of an absent or a refused opcode (R102, R121, R403) -/

/-- R121: an absent byte decodes to its row, without operands. -/
theorem decode_absent {op : Byte} (h : isAbsent op = true) (rest : List Byte) :
    decode (op :: rest) = .ok (decodeBase op 0 0, rest) := by
  obtain ⟨hcount, hop⟩ := isAbsent_spec op h
  simp only [decode, if_neg hop, hcount]

theorem absentRows_spec : ∀ r ∈ absentRows, isAbsent r.1 = true ∧ decodeBase r.1 0 0 = r.2 := by
  decide

theorem isAbsent_iff (op : Byte) : isAbsent op = true ↔ op ∈ absentRows.map Prod.fst := by
  simp only [isAbsent, List.contains_iff_mem]
  rfl

theorem fetchInstr_absent {s : State} (hr : s.canRead s.pc = true) (ha : isAbsent (s.peek s.pc) = true) :
    fetchInstr s = .next (decodeBase (s.peek s.pc) 0 0, { s.afterRead s.pc with
      pc := if s.haltBug then s.pc else s.pc + 1, opAddr := s.pc, haltBug := false }) := by
  obtain ⟨-, hop⟩ := isAbsent_spec _ ha
  simp only [fetchInstr, fetchOpcode_spec hr, andThen_next, if_neg hop, if_pos ha]

/-- R102, R401: RefusedOpcode raised by the fetch, at the state past the opcode's bytes. -/
theorem fetchInstr_refused {s : State} (hr : s.canRead s.pc = true) (hop : s.peek s.pc ≠ prefixByte)
    (ha : isAbsent (s.peek s.pc) = false) (hm : (false, s.peek s.pc) ∈ s.params.refusedOpcodes) :
    fetchInstr s = raise (.refusedOpcode false (s.peek s.pc) s.pc) { s.afterRead s.pc with
      pc := if s.haltBug then s.pc else s.pc + 1, opAddr := s.pc, haltBug := false } := by
  simp only [fetchInstr, fetchOpcode_spec hr, andThen_next, if_neg hop, ha]
  rw [if_neg Bool.false_ne_true, if_pos (by simpa [State.refuses] using hm)]

/-- R102 step 2: the same for an extended opcode, after 0xCB. -/
theorem fetchInstr_refused_extended {s : State} (hb : s.haltBug = false) (hr : s.canRead s.pc = true)
    (hop : s.peek s.pc = prefixByte) (hr' : s.canRead (s.pc + 1) = true)
    (hm : (true, (s.afterRead s.pc).peek (s.pc + 1)) ∈ s.params.refusedOpcodes) :
    fetchInstr s = raise (.refusedOpcode true ((s.afterRead s.pc).peek (s.pc + 1)) s.pc)
      { s.afterReads 2 s.pc with pc := s.pc + 2, opAddr := s.pc } := by
  have hpc : s.pc + 2 = s.pc + 1 + 1 := by rw [BitVec.add_assoc]; rfl
  simp only [fetchInstr, fetchOpcode_spec hr, andThen_next, if_pos hop]
  rw [hb, fetchExtended, if_neg Bool.false_ne_true,
    fetch8_fetching _ _ _ (by rwa [State.canRead_afterRead]), andThen_next, ← State.fetched_eq hb, hpc]
  exact if_pos (by simpa [State.refuses] using hm)

/-- Settles O6: the rows of the eleven bytes, and the step, whose fetch answers the row. -/
theorem absentOpcodeFaults : Obligations.AbsentOpcodeFaults := by
  refine ⟨fun r hrow rest => ?_, isAbsent_iff, fun r hrow s => ?_, fun s hk hr hmem => ?_⟩
  · obtain ⟨ha, hdec⟩ := absentRows_spec r hrow
    rw [decode_absent ha, hdec]
  · obtain ⟨ha, hdec⟩ := absentRows_spec r hrow
    rw [← hdec, exec_absent ha]
    rfl
  · have ha := (isAbsent_iff _).2 hmem
    refine ⟨_, ?_, rfl, step_of_faults (List.cons_ne_nil _ _)⟩
    rw [step_of_fetchInstr hk (fetchInstr_absent hr ha), exec_absent ha, opIllegal, raise, andThen_fault, recordFault,
      State.afterRead_faults]
    rfl

/-- Settles O7: the fetch raises the fault, after one opcode byte or after 0xCB and its byte. -/
theorem refusedOpcodeFaults : Obligations.RefusedOpcodeFaults := by
  refine ⟨fun s hk hr hop ha hm => ?_, fun s op hk hb hrs hbytes hm => ?_⟩
  · refine step_of_fetchInstr_fault hk ((fetchInstr_refused hr hop ha hm).trans ?_)
    rw [raise, recordFault, State.afterRead_faults]
    rfl
  · obtain ⟨hr, hrs⟩ := State.canReads_succ hrs
    obtain ⟨hprefix, hbyte⟩ : s.peek s.pc = prefixByte ∧ (s.afterRead s.pc).peek (s.pc + 1) = op := by
      simpa [State.bytesAt, prefixByte] using hbytes
    obtain ⟨hr', -⟩ := State.canReads_succ hrs
    subst hbyte
    refine step_of_fetchInstr_fault hk ((fetchInstr_refused_extended hb hr hprefix hr' hm).trans ?_)
    rw [raise, recordFault, State.afterReads_eq]
    rfl

/-! ## The row of 0xCB (R102, R123) -/

/-- R110: where the byte at HL can be written, every operand can. -/
theorem State.canWriteOperand_of_canWrite_hl {s : State} (h : s.canWrite s.regs.hl = true) (o : Operand8) :
    s.canWriteOperand o = true := by
  cases o with
  | reg r => rfl
  | atHL => exact h

@[simp] theorem State.afterOperand_pc (s : State) (o : Operand8) : (s.afterOperand o).pc = s.pc := by
  rw [s.afterOperand_eq o]

@[simp] theorem State.setOperand_pc (s : State) (o : Operand8) (v : Byte) : (s.setOperand o v).pc = s.pc := by
  cases o <;> simp [State.setOperand]

/-- A read-modify-write operation of an operand that can be written answers a state. -/
theorem modify_completes {o : Operand8} {s : State} (f : Byte → State → Byte) (g : Byte → State → State → State)
    (hw : s.canWriteOperand o = true) (hpc : ∀ v s1 s2, (g v s1 s2).pc = s2.pc) :
    ∃ t, (andThen (readOperand o s) fun (v, s1) => andThen (writeOperand o (f v s1) s1) fun s2 => .next (g v s1 s2)) =
      (.next t : Res State) ∧ t.pc = s.pc := by
  rw [readOperand_eq (State.canReadOperand_of_canWriteOperand hw), andThen_next]
  dsimp only
  rw [writeOperand_eq _ (by rwa [State.canWriteOperand_afterOperand]), andThen_next]
  exact ⟨_, rfl, by simp [hpc]⟩

theorem opBit_completes {b : Fin 8} {o : Operand8} {s : State} (hr : s.canReadOperand o = true) :
    ∃ t, opBit b o s = .next t ∧ t.pc = s.pc := by
  rw [opBit, readOperand_eq hr, andThen_next]
  exact ⟨_, rfl, by simp⟩

/-- R120: an extended instruction answers a state where the byte at HL can be written. -/
theorem opExtended_completes {s : State} (h : s.canWrite s.regs.hl = true) (op : Byte) :
    ∃ t, opExtended op s = .next t ∧ t.pc = s.pc := by
  have hw := State.canWriteOperand_of_canWrite_hl h
  unfold opExtended
  split
  · exact modify_completes (fun v s1 => (rot _ v s1.regs.f.c).1)
      (fun v s1 s2 => (s2.setF (rotFlags (rot _ v s1.regs.f.c).1 (rot _ v s1.regs.f.c).2)).took _) (hw _)
      fun _ _ _ => rfl
  · exact opBit_completes (State.canReadOperand_of_canWriteOperand (hw _))
  · exact modify_completes (fun v _ => resBit _ v) (fun _ _ s2 => s2.took _) (hw _) fun _ _ _ => rfl
  · exact modify_completes (fun v _ => setBit _ v) (fun _ _ s2 => s2.took _) (hw _) fun _ _ _ => rfl

theorem exec_prefixCB {s : State} (hr : s.canRead s.pc = true) (hn : s.refuses true (s.peek s.pc) = false) :
    exec .prefixCB s = opExtended (s.peek s.pc) ((s.afterRead s.pc).setPC (s.pc + 1)) := by
  show opPrefixed s = _
  rw [opPrefixed, fetch8_eq hr, andThen_next]
  exact if_neg (by simpa [State.refuses] using hn)

/-- Settles O49: the row of 0xCB fetches the byte whose extended instruction it is. -/
theorem prefixRow : Obligations.PrefixRow := by
  intro s hr hn
  rw [exec_prefixCB hr hn]
  refine ⟨opExtended_eq_exec _ _, fun hw => ?_⟩
  exact opExtended_completes (s := (s.afterRead s.pc).setPC (s.pc + 1)) (by simpa using hw) (s.peek s.pc)

end Sys2Proof.Machine
end

section
/-! SUPPORT. The cycle counts (`30_encoding.md` R126, `70_reset_and_hazards.md` R514): the counts the opcode table gives
each row, family by family, and that an instruction which answers a state took one of them. -/

namespace Sys2Proof.Machine

/-! ## The counts of the rows -/

theorem cycles_jrCond (cc : Cond) (n : Byte) : (descriptor (rowJrCond cc n)).cycles = [3, 2] := by cases cc <;> rfl

theorem cycles_jpCond (cc : Cond) (a : Word) : (descriptor (rowJpCond cc a)).cycles = [4, 3] := by cases cc <;> rfl

theorem cycles_callCond (cc : Cond) (a : Word) : (descriptor (rowCallCond cc a)).cycles = [6, 3] := by cases cc <;> rfl

theorem cycles_retCond (cc : Cond) : (descriptor (rowRetCond cc)).cycles = [5, 2] := by cases cc <;> rfl

theorem cycles_rst (y : Fin 8) : (descriptor (rowRst y)).cycles = [4] := by fin_cases y <;> rfl

theorem cycles_ld {dst src : Operand8} (h : dst = .atHL → src ≠ .atHL) :
    (descriptor (rowLd8 dst src)).cycles = [max (cyclesBy dst 1 2) (cyclesBy src 1 2)] := by
  rcases dst with (_ | _ | _ | _ | _ | _ | _) | _ <;> rcases src with (_ | _ | _ | _ | _ | _ | _) | _ <;>
    first | rfl | exact absurd rfl (h rfl)

theorem cycles_ldImm (dst : Operand8) (n : Byte) : (descriptor (rowLdImm8 dst n)).cycles = [cyclesBy dst 2 3] := by
  rcases dst with (_ | _ | _ | _ | _ | _ | _) | _ <;> rfl

theorem cycles_storeIndirect (k : IndirectA) : (descriptor (rowStoreA k)).cycles = [2] := by cases k <;> rfl

theorem cycles_loadIndirect (k : IndirectA) : (descriptor (rowLoadA k)).cycles = [2] := by cases k <;> rfl

theorem cycles_ldImm16 (r : R16) (v : Word) : (descriptor (rowLdImm16 r v)).cycles = [3] := by cases r <;> rfl

theorem cycles_push (r : R16Stk) : (descriptor (rowPush r)).cycles = [4] := by cases r <;> rfl

theorem cycles_pop (r : R16Stk) : (descriptor (rowPop r)).cycles = [3] := by cases r <;> rfl

theorem cycles_inc8 (o : Operand8) : (descriptor (rowInc8 o)).cycles = [cyclesBy o 1 3] := by
  rcases o with (_ | _ | _ | _ | _ | _ | _) | _ <;> rfl

theorem cycles_dec8 (o : Operand8) : (descriptor (rowDec8 o)).cycles = [cyclesBy o 1 3] := by
  rcases o with (_ | _ | _ | _ | _ | _ | _) | _ <;> rfl

theorem cycles_inc16 (r : R16) : (descriptor (rowInc16 r)).cycles = [2] := by cases r <;> rfl

theorem cycles_dec16 (r : R16) : (descriptor (rowDec16 r)).cycles = [2] := by cases r <;> rfl

theorem cycles_alu (op : AluOp) (o : Operand8) : (descriptor (rowAlu op o)).cycles = [cyclesBy o 1 2] := by
  rcases o with (_ | _ | _ | _ | _ | _ | _) | _ <;> cases op <;> rfl

theorem cycles_aluImm (op : AluOp) (n : Byte) : (descriptor (rowAluImm op n)).cycles = [2] := by cases op <;> rfl

theorem cycles_addHL (r : R16) : (descriptor (rowAddHL r)).cycles = [2] := by cases r <;> rfl

theorem cycles_rot (op : RotOp) (o : Operand8) : (descriptor (rowRot op o)).cycles = [cyclesBy o 2 4] := by
  rcases o with (_ | _ | _ | _ | _ | _ | _) | _ <;> cases op <;> rfl

theorem cycles_bit (b : Fin 8) (o : Operand8) : (descriptor (rowBit b o)).cycles = [cyclesBy o 2 3] := by
  rcases o with (_ | _ | _ | _ | _ | _ | _) | _ <;> fin_cases b <;> rfl

theorem cycles_res (b : Fin 8) (o : Operand8) : (descriptor (rowRes b o)).cycles = [cyclesBy o 2 4] := by
  rcases o with (_ | _ | _ | _ | _ | _ | _) | _ <;> fin_cases b <;> rfl

theorem cycles_set (b : Fin 8) (o : Operand8) : (descriptor (rowSet b o)).cycles = [cyclesBy o 2 4] := by
  rcases o with (_ | _ | _ | _ | _ | _ | _) | _ <;> fin_cases b <;> rfl

/-! ## The count an instruction took -/

/-- R126: the first count of a row is that of the only path, or of the taken one. -/
theorem took_mem_cycles {i : Instr} {n : Nat} {l : List Nat} (h : (descriptor i).cycles = n :: l) (s : State) :
    (s.took n).stepCycles ∈ (descriptor i).cycles := by
  rw [h]
  exact List.mem_cons_self

/-- R126: the second count of a conditional form's row is that of the path not taken. -/
theorem took_mem_cycles_notTaken {i : Instr} {m n : Nat} (h : (descriptor i).cycles = [m, n]) (s : State) :
    (s.took n).stepCycles ∈ (descriptor i).cycles := by
  rw [h]
  exact List.mem_cons_of_mem m List.mem_cons_self

/-- Settles O54: by the families of instructions, each ended by `State.took` with a count of its row. -/
theorem cycleCounts : Obligations.CycleCounts := by
  intro i s t hi h
  cases shape_of i with
  | nop | stop | di | ei | jr | jp | jpHL | ldSPHL | ldHLSP | addSP | rlca | rrca | rla | rra | daa | cpl | scf | ccf =>
    cases h
    exact took_mem_cycles rfl _
  | halt =>
    rcases opHalt_eq_next h with ⟨-, rfl⟩ | ⟨-, -, rfl⟩ | ⟨-, -, -, rfl⟩ <;> exact took_mem_cycles rfl _
  | jrCond cc n =>
    rw [exec_jrCond, opJrCond] at h
    split at h <;> cases h
    · exact took_mem_cycles (cycles_jrCond cc n) _
    · exact took_mem_cycles_notTaken (cycles_jrCond cc n) s
  | jpCond cc a =>
    rw [exec_jpCond, opJpCond] at h
    split at h <;> cases h
    · exact took_mem_cycles (cycles_jpCond cc a) _
    · exact took_mem_cycles_notTaken (cycles_jpCond cc a) s
  | call a =>
    obtain ⟨-, rfl⟩ := opCall_eq_next h
    exact took_mem_cycles rfl _
  | callCond cc a =>
    rw [exec_callCond, opCallCond] at h
    split at h
    · obtain ⟨-, rfl⟩ := opCall_eq_next h
      exact took_mem_cycles (cycles_callCond cc a) _
    · cases h
      exact took_mem_cycles_notTaken (cycles_callCond cc a) s
  | ret =>
    obtain ⟨-, rfl⟩ := opRet_eq_next h
    exact took_mem_cycles rfl _
  | retCond cc =>
    rw [exec_retCond, opRetCond] at h
    split at h
    · obtain ⟨-, rfl⟩ := opRet_eq_next h
      exact took_mem_cycles (cycles_retCond cc) _
    · cases h
      exact took_mem_cycles_notTaken (cycles_retCond cc) s
  | reti =>
    obtain ⟨-, rfl⟩ := opReti_eq_next h
    exact took_mem_cycles rfl _
  | rst y =>
    rw [exec_rst] at h
    obtain ⟨-, rfl⟩ := opCall_eq_next h
    exact took_mem_cycles (cycles_rst y) _
  | ld dst src hd =>
    rw [exec_ld hd] at h
    obtain ⟨-, -, rfl⟩ := opLd_eq_next h
    exact took_mem_cycles (cycles_ld hd) _
  | ldImm dst n =>
    rw [exec_ldImm] at h
    obtain ⟨-, rfl⟩ := opLdImm_eq_next h
    exact took_mem_cycles (cycles_ldImm dst n) _
  | storeIndirect k =>
    rw [exec_storeIndirect] at h
    obtain ⟨-, rfl⟩ := opStoreIndirect_eq_next h
    exact took_mem_cycles (cycles_storeIndirect k) _
  | loadIndirect k =>
    rw [exec_loadIndirect] at h
    obtain ⟨-, rfl⟩ := opLoadIndirect_eq_next h
    exact took_mem_cycles (cycles_loadIndirect k) _
  | ldImm16 r v =>
    rw [exec_ldImm16] at h
    cases h
    exact took_mem_cycles (cycles_ldImm16 r v) _
  | storeSP a =>
    obtain ⟨u, -, hu⟩ := andThen_eq_next h
    cases hu
    exact took_mem_cycles rfl _
  | storeAbs | ldhStore | storeC =>
    obtain ⟨-, rfl⟩ := opStoreA_eq_next h
    exact took_mem_cycles rfl _
  | loadAbs | ldhLoad | loadC =>
    obtain ⟨-, rfl⟩ := opLoadA_eq_next h
    exact took_mem_cycles rfl _
  | push r =>
    rw [exec_push] at h
    obtain ⟨-, rfl⟩ := opPush_eq_next h
    exact took_mem_cycles (cycles_push r) _
  | pop r =>
    rw [exec_pop] at h
    obtain ⟨-, rfl⟩ := opPop_eq_next h
    exact took_mem_cycles (cycles_pop r) _
  | inc8 o =>
    rw [exec_inc8] at h
    obtain ⟨-, rfl⟩ := opInc_eq_next h
    exact took_mem_cycles (cycles_inc8 o) _
  | dec8 o =>
    rw [exec_dec8] at h
    obtain ⟨-, rfl⟩ := opDec_eq_next h
    exact took_mem_cycles (cycles_dec8 o) _
  | inc16 r =>
    rw [exec_inc16] at h
    cases h
    exact took_mem_cycles (cycles_inc16 r) _
  | dec16 r =>
    rw [exec_dec16] at h
    cases h
    exact took_mem_cycles (cycles_dec16 r) _
  | alu op o =>
    rw [exec_alu] at h
    obtain ⟨-, rfl⟩ := opAlu_eq_next h
    exact took_mem_cycles (cycles_alu op o) _
  | aluImm op n =>
    rw [exec_aluImm] at h
    cases h
    exact took_mem_cycles (cycles_aluImm op n) _
  | addHL r =>
    rw [exec_addHL] at h
    cases h
    exact took_mem_cycles (cycles_addHL r) _
  | rot op o =>
    rw [exec_rot] at h
    obtain ⟨-, rfl⟩ := opRot_eq_next h
    exact took_mem_cycles (cycles_rot op o) _
  | bit b o =>
    rw [exec_bit] at h
    obtain ⟨-, rfl⟩ := opBit_eq_next h
    exact took_mem_cycles (cycles_bit b o) _
  | res b o =>
    rw [exec_res] at h
    obtain ⟨-, rfl⟩ := opRes_eq_next h
    exact took_mem_cycles (cycles_res b o) _
  | set b o =>
    rw [exec_set] at h
    obtain ⟨-, rfl⟩ := opSet_eq_next h
    exact took_mem_cycles (cycles_set b o) _
  | prefixed => exact absurd rfl hi
  | absent op ha =>
    rw [exec_absent ha] at h
    exact absurd h raise_ne_next

end Sys2Proof.Machine
end

section
/-! SUPPORT. The jumps (`41_control_transfer.md` R210-R214). -/

namespace Sys2Proof.Machine

/-! ## Encodings (R105, R113) -/

theorem encode_jrCond (cc : Cond) (n : Byte) : encode (rowJrCond cc n) = [0x20 + 8 * condIndex cc, n] := by
  cases cc <;> rfl

theorem encode_jpCond (cc : Cond) (a : Word) :
    encode (rowJpCond cc a) = [0xC2 + 8 * condIndex cc, a.extractLsb' 0 8, a.extractLsb' 8 8] := by
  cases cc <;> rfl

/-- Settles O30: the plain forms by their meaning, the conditional ones by `opJrCond` and `opJpCond`, taken or not. -/
theorem jumps : Obligations.Jumps := by
  refine ⟨fun n => rfl, encode_jrCond, fun a => rfl, encode_jpCond, rfl, fun f => ⟨rfl, rfl, rfl, rfl⟩,
    fun s => ⟨fun n => rfl, fun cc n => ?_, fun a => rfl, fun cc a => ?_, rfl⟩⟩
  · rw [exec_jrCond, opJrCond]
    split <;> rfl
  · rw [exec_jpCond, opJpCond]
    split <;> rfl

end Sys2Proof.Machine
end

section
/-! SUPPORT. NOP, STOP, HALT, DI and EI (`40_nop_stop_halt.md` R200-R205): the four cases of HALT, one lemma each. -/

namespace Sys2Proof.Machine

/-! ## HALT (R202, R203) -/

theorem opHalt_of_no_request {s : State} (hp : s.pending = 0) :
    opHalt s = .next (State.took 1 { s with runState := .halted }) := by
  rw [opHalt, if_pos hp]

theorem opHalt_of_ime {s : State} (hp : s.pending ≠ 0) (hi : s.ime = true) : opHalt s = .next (s.took 1) := by
  rw [opHalt, if_neg hp, if_pos hi]

theorem opHalt_sets_haltBug {s : State} (hp : s.pending ≠ 0) (hi : s.ime = false) (he : s.eiPending = false) :
    opHalt s = .next (State.took 1 { s with haltBug := true }) := by
  rw [opHalt, if_neg hp, if_neg (Bool.eq_false_iff.mp hi), if_neg (Bool.eq_false_iff.mp he)]

theorem opHalt_after_ei {s : State} (hp : s.pending ≠ 0) (hi : s.ime = false) (he : s.eiPending = true) :
    opHalt s = raise (.unmodelledHaltBug s.pc) s := by
  rw [opHalt, if_neg hp, if_neg (Bool.eq_false_iff.mp hi), if_pos he]

/-- Settles O29: NOP, STOP, DI and EI by their meaning, HALT by its four cases. -/
theorem nopStopHaltDiEi : Obligations.NopStopHaltDiEi :=
  ⟨rfl, rfl, rfl, fun _ => rfl, rfl, fun _ =>
    ⟨rfl, fun _ => rfl, rfl, rfl, opHalt_of_no_request, opHalt_of_ime, opHalt_sets_haltBug, opHalt_after_ei⟩⟩

end Sys2Proof.Machine
end

section
/-! SUPPORT. Calls and restarts (`41_control_transfer.md` R215, R216, R220): the encodings, and a call with its push made. -/

namespace Sys2Proof.Machine

theorem encode_callCond (cc : Cond) (a : Word) :
    encode (rowCallCond cc a) = [0xC4 + 8 * condIndex cc, a.extractLsb' 0 8, a.extractLsb' 8 8] := by
  cases cc <;> rfl

theorem encode_rst (y : Fin 8) : encode (rowRst y) = [BitVec.ofNat 8 (0xC7 + 8 * y.val)] := by
  fin_cases y <;> rfl

/-- R260: the registers after a push are those before it, but for SP. -/
theorem State.pushed_eq (s : State) (v : Word) :
    s.pushed v = { (s.poke (s.regs.sp - 1) (v.extractLsb' 8 8)).poke (s.regs.sp - 2) (v.extractLsb' 0 8) with
      regs := { s.regs with sp := s.regs.sp - 2 } } := by
  rw [State.pushed, State.setSP, State.poke_regs, State.poke_regs]
  rfl

/-- R215: a call whose two stores do not fault. -/
theorem opCall_eq {s : State} (h1 : s.canWrite (s.regs.sp - 1) = true) (h2 : s.canWrite (s.regs.sp - 2) = true)
    (a : Word) (n : Nat) :
    opCall a n s =
      .next { (s.poke (s.regs.sp - 1) (s.pc.extractLsb' 8 8)).poke (s.regs.sp - 2) (s.pc.extractLsb' 0 8) with
        regs := { s.regs with sp := s.regs.sp - 2 }, pc := a, stepCycles := n } := by
  have hpush : s.canPush = true := by rw [State.canPush, h1, h2]; rfl
  rw [opCall, push16_eq _ hpush, andThen_next, State.pushed_eq]
  rfl

/-- R216: a call not taken does not reach its push. -/
theorem exec_callCond_notTaken {s : State} {cc : Cond} (hcc : condHolds cc s.regs.f = false) (a : Word) :
    exec (rowCallCond cc a) s = .next (s.took 3) := by
  rw [exec_callCond, opCallCond, if_neg (Bool.eq_false_iff.mp hcc)]

theorem exec_callCond_taken {s : State} {cc : Cond} (hcc : condHolds cc s.regs.f = true) (a : Word) :
    exec (rowCallCond cc a) s = opCall a 6 s := by
  rw [exec_callCond, opCallCond, if_pos hcc]

/-- Settles O31: CALL, a taken CALL cc and RST are one `opCall`, which answers or faults as its push does. -/
theorem callsAndRestarts : Obligations.CallsAndRestarts := by
  refine ⟨fun a => rfl, encode_callCond, encode_rst, fun s cc a hcc => exec_callCond_notTaken hcc a,
    fun s h1 h2 => ⟨fun a => opCall_eq h1 h2 a 6, fun cc a hcc => ?_, fun y => ?_⟩,
    fun s i hi => ⟨fun f hf => ?_, fun f hw hf => ?_⟩⟩
  · exact (exec_callCond_taken hcc a).trans (opCall_eq h1 h2 a 6)
  · exact (exec_rst s y).trans (opCall_eq h1 h2 (rstTarget y) 4)
  · exact exec_call_eq_fault hi (push16_eq_fault_first hf)
  · exact exec_call_eq_fault hi (push16_eq_fault_second hw hf)

end Sys2Proof.Machine
end

section
/-! SUPPORT. Returns (`41_control_transfer.md` R217-R219): the encodings, and a return whose pop is made. -/

namespace Sys2Proof.Machine

theorem encode_retCond (cc : Cond) : encode (rowRetCond cc) = [0xC0 + 8 * condIndex cc] := by
  cases cc <;> rfl

theorem State.canPop_of_canRead {s : State} (h1 : s.canRead s.regs.sp = true) (h2 : s.canRead (s.regs.sp + 1) = true) :
    s.canPop = true := by
  rw [State.canPop, h1, h2]
  rfl

/-- R260: the state after a pop is that after its two reads, but for SP. -/
theorem State.popped_eq_afterRead (s : State) :
    s.popped = { (s.afterRead s.regs.sp).afterRead (s.regs.sp + 1) with
      regs := { s.regs with sp := s.regs.sp + 2 } } := by
  rw [State.popped, State.setSP, State.afterReads, State.afterReads, State.afterReads, State.afterRead_regs,
    State.afterRead_regs]

/-- R217: a return whose two reads do not fault. -/
theorem opRet_eq {s : State} (h1 : s.canRead s.regs.sp = true) (h2 : s.canRead (s.regs.sp + 1) = true) (n : Nat) :
    opRet n s =
      .next { (s.afterRead s.regs.sp).afterRead (s.regs.sp + 1) with
        regs := { s.regs with sp := s.regs.sp + 2 },
        pc := (s.afterRead s.regs.sp).peek (s.regs.sp + 1) ++ s.peek s.regs.sp, stepCycles := n } := by
  rw [opRet, pop16_eq (State.canPop_of_canRead h1 h2), andThen_next, State.popped_eq_afterRead]
  rfl

/-- R219: likewise the return from an interrupt handler, which enables interrupts at once. -/
theorem opReti_eq {s : State} (h1 : s.canRead s.regs.sp = true) (h2 : s.canRead (s.regs.sp + 1) = true) :
    opReti s =
      .next { (s.afterRead s.regs.sp).afterRead (s.regs.sp + 1) with
        regs := { s.regs with sp := s.regs.sp + 2 },
        pc := (s.afterRead s.regs.sp).peek (s.regs.sp + 1) ++ s.peek s.regs.sp,
        ime := true, eiPending := false, stepCycles := 4 } := by
  rw [opReti, interruptReturn_eq (State.canPop_of_canRead h1 h2), andThen_next, State.popped_eq_afterRead]
  rfl

/-- R218: a return not taken does not reach its pop. -/
theorem exec_retCond_notTaken {s : State} {cc : Cond} (hcc : condHolds cc s.regs.f = false) :
    exec (rowRetCond cc) s = .next (s.took 2) := by
  rw [exec_retCond, opRetCond, if_neg (Bool.eq_false_iff.mp hcc)]

theorem exec_retCond_taken {s : State} {cc : Cond} (hcc : condHolds cc s.regs.f = true) :
    exec (rowRetCond cc) s = opRet 5 s := by
  rw [exec_retCond, opRetCond, if_pos hcc]

/-- Settles O32: RET and a taken RET cc are `opRet`, RETI is `opReti`. -/
theorem returns : Obligations.Returns :=
  ⟨rfl, encode_retCond, rfl, fun _ _ => exec_retCond_notTaken, fun _ h1 h2 =>
    ⟨opRet_eq h1 h2 4, fun _ hcc => (exec_retCond_taken hcc).trans (opRet_eq h1 h2 5), opReti_eq h1 h2⟩⟩

end Sys2Proof.Machine
end

section
/-! SUPPORT. The 8-bit loads (`42_loads.md` R230-R234): the encodings, a load with its accesses made, and every fault of a
write. -/

namespace Sys2Proof.Machine

/-! ## Encodings (R110, R117) -/

theorem encode_ld {dst src : Operand8} (h : dst = .atHL → src ≠ .atHL) :
    encode (rowLd8 dst src) = [0x40 + 8 * operandIndex dst + operandIndex src] := by
  rcases dst with x | _
  · cases x <;> rcases src with (_ | _ | _ | _ | _ | _ | _) | _ <;> rfl
  · rcases src with y | _
    · cases y <;> rfl
    · exact absurd rfl (h rfl)

theorem encode_ldImm (dst : Operand8) (n : Byte) : encode (rowLdImm8 dst n) = [0x06 + 8 * operandIndex dst, n] := by
  rcases dst with (_ | _ | _ | _ | _ | _ | _) | _ <;> rfl

/-! ## `exec` of the rows other than the slot of HALT (R117) -/

theorem exec_ldReg (x : R8) (src : Operand8) (s : State) : exec (rowLd8 (.reg x) src) s = opLd (.reg x) src s :=
  exec_ld (dst := .reg x) nofun s

theorem exec_ldHLReg (y : R8) (s : State) : exec (rowLd8 .atHL (.reg y)) s = opLd .atHL (.reg y) s :=
  exec_ld (dst := .atHL) (src := .reg y) (fun _ => nofun) s

/-! ## Loads whose accesses do not fault, and stores that fault -/

/-- R230-R232: the source is read, then the destination written. -/
theorem opLd_eq {s : State} {dst src : Operand8} (hr : s.canReadOperand src = true)
    (hw : s.canWriteOperand dst = true) :
    opLd dst src s =
      .next (((s.afterOperand src).setOperand dst (s.operand src)).took (max (cyclesBy dst 1 2) (cyclesBy src 1 2))) := by
  rw [← State.canWriteOperand_afterOperand s src dst] at hw
  rw [opLd, readOperand_eq hr]
  show andThen (writeOperand dst (s.operand src) (s.afterOperand src)) _ = _
  rw [writeOperand_eq _ hw, andThen_next]

/-- R233, R234. -/
theorem opLdImm_eq {s : State} {dst : Operand8} (hw : s.canWriteOperand dst = true) (n : Byte) :
    opLdImm dst n s = .next ((s.setOperand dst n).took (cyclesBy dst 2 3)) := by
  rw [opLdImm, writeOperand_eq n hw, andThen_next]

theorem exec_ldRegHL {s : State} (h : s.canRead s.regs.hl = true) (x : R8) :
    exec (rowLd8 (.reg x) .atHL) s =
      .next { s.afterRead s.regs.hl with regs := s.regs.set8 x (s.peek s.regs.hl), stepCycles := 2 } := by
  rw [exec_ldReg, opLd_eq (src := .atHL) h rfl, State.afterOperand, State.setOperand, State.set8, State.afterRead_regs]
  rfl

theorem exec_ldHLReg_eq_fault {s : State} {y : R8} {f : Fault}
    (h : memWrite s.regs.hl (s.regs.get8 y) s = .fault f) : exec (rowLd8 .atHL (.reg y)) s = .fault f := by
  rw [exec_ldHLReg, opLd, readOperand, andThen_next]
  exact congrArg (andThen · _) h

theorem exec_ldHLImm_eq_fault {s : State} {n : Byte} {f : Fault} (h : memWrite s.regs.hl n s = .fault f) :
    exec (rowLdImm8 .atHL n) s = .fault f := by
  rw [exec_ldImm, opLdImm, writeOperand, h, andThen_fault]

/-! ## What a write can raise (R48, R66, R67) -/

/-- R48: the offsets of the DMA registers. -/
theorem ioRegAt_dma : ∀ off : Byte,
    ioRegAt off.toNat = .dma → off.toNat = 0x46 ∨ 0x51 ≤ off.toNat ∧ off.toNat ≤ 0x55 := by decide

theorem isDmaAddr_of_isDma {a : Word} (h : isDma a = true) : IsDmaAddr a := by
  obtain ⟨hio, hdma⟩ := of_decide_eq_true h
  have hbounds := region_io_bounds hio
  have hoff := ioRegAt_dma (loByte a) hdma
  rw [loByte_toNat] at hoff
  unfold IsDmaAddr
  omega

/-- R66, R67: a write completes or faults whatever its byte, at a DMA register or in the echo region under FAULT. -/
theorem State.canWrite_or_memWrite_faults (s : State) (a : Word) :
    s.canWrite a = true ∨ ∃ f, ∀ v, memWrite a v s = .fault f ∧
      (f = .unmodelledDevice { s with faults := .unmodelledDevice a :: s.faults } ∧ IsDmaAddr a ∨
        f = .restrictedAccess { s with faults := .restrictedAccess a :: s.faults } ∧
          0xE000 ≤ a.toNat ∧ a.toNat ≤ 0xFDFF ∧ s.params.echoPolicy = .fault) := by
  by_cases hres : s.restricted a = true
  · obtain ⟨hecho, hpolicy⟩ := of_decide_eq_true hres
    obtain ⟨hfirst, hlast⟩ := region_echo_bounds hecho
    exact .inr ⟨_, fun v => ⟨(echo_fault v hecho hpolicy).2, .inr ⟨rfl, hfirst, hlast, hpolicy⟩⟩⟩
  by_cases hdma : isDma a = true
  · have haddr := isDmaAddr_of_isDma hdma
    exact .inr ⟨_, fun v => ⟨memWrite_eq_dmaFault haddr v s, .inl ⟨rfl, haddr⟩⟩⟩
  · exact .inl (by simp [State.canWrite, hres, hdma])

/-- Settles O33: a load is `opLd_eq` or `opLdImm_eq` where its accesses can be made; at HL a write is made or faults. -/
theorem loadByte : Obligations.LoadByte := by
  refine ⟨fun _ _ => encode_ld, encode_ldImm, fun s x y n => ⟨?_, fun h => exec_ldRegHL h x, fun h => ?_, ?_, fun h => ?_,
    fun _ => exec_ldHLReg_eq_fault, fun _ => exec_ldHLImm_eq_fault, s.canWrite_or_memWrite_faults s.regs.hl⟩⟩
  · exact (exec_ldReg x _ s).trans (opLd_eq (dst := .reg x) (src := .reg y) rfl rfl)
  · exact (exec_ldHLReg y s).trans (opLd_eq (dst := .atHL) (src := .reg y) rfl h)
  · exact (exec_ldImm _ n s).trans (opLdImm_eq (dst := .reg x) rfl n)
  · exact (exec_ldImm _ n s).trans (opLdImm_eq (dst := .atHL) h n)

end Sys2Proof.Machine
end

section
/-! SUPPORT. The accumulator loads and stores through a pair (`42_loads.md` R235-R240): a load and a store with the access
made, and the store's fault. -/

namespace Sys2Proof.Machine

/-- A read leaves the registers, so A is the only one to change where its byte is loaded. -/
theorem State.setA_afterRead (s : State) (a : Word) (v : Byte) :
    (s.afterRead a).setA v = { s.afterRead a with regs := { s.regs with a := v } } := by
  rw [State.setA, State.afterRead_regs]

theorem opStoreIndirect_eq {s : State} {k : IndirectA} (h : s.canWrite (indirectAddr k s.regs) = true) :
    opStoreIndirect k s = .next ((indirectStep k (s.poke (indirectAddr k s.regs) s.regs.a)).took 2) := by
  rw [opStoreIndirect, memWrite_eq _ h, andThen_next]

theorem opLoadIndirect_eq {s : State} {k : IndirectA} (h : s.canRead (indirectAddr k s.regs) = true) :
    opLoadIndirect k s =
      .next ((indirectStep k { s.afterRead (indirectAddr k s.regs) with
        regs := { s.regs with a := s.peek (indirectAddr k s.regs) } }).took 2) := by
  rw [← State.setA_afterRead, opLoadIndirect, memRead_eq h, andThen_next]

/-- R237, R238: HL moves from where it was before the store. -/
theorem State.setHL_poke (s : State) (a : Word) (v : Byte) (w : Word) :
    (s.poke a v).setHL w = { s.poke a v with regs := s.regs.setHL w } := by
  rw [State.setHL, State.poke_regs]

theorem exec_storeIndirect_eq_fault {s : State} {k : IndirectA} {f : Fault}
    (h : memWrite (indirectAddr k s.regs) s.regs.a s = .fault f) : exec (rowStoreA k) s = .fault f := by
  rw [exec_storeIndirect, opStoreIndirect, h, andThen_fault]

/-- Settles O34: each form is `opStoreIndirect` or `opLoadIndirect` of its address register. -/
theorem loadIndirect : Obligations.LoadIndirect := by
  refine ⟨rfl, rfl, rfl, rfl, rfl, rfl, rfl, rfl, fun s => ⟨opStoreIndirect_eq (k := .bc), opStoreIndirect_eq (k := .de),
    fun h => (opStoreIndirect_eq (k := .hli) h).trans ?_, fun h => (opStoreIndirect_eq (k := .hld) h).trans ?_,
    opLoadIndirect_eq (k := .bc), opLoadIndirect_eq (k := .de), opLoadIndirect_eq (k := .hli),
    opLoadIndirect_eq (k := .hld), fun _ _ => exec_storeIndirect_eq_fault⟩⟩
  · rw [indirectStep, State.setHL_poke, State.poke_regs]
    rfl
  · rw [indirectStep, State.setHL_poke, State.poke_regs]
    rfl

end Sys2Proof.Machine
end

section
/-! SUPPORT. The 16-bit loads of a register and the 16-bit increment and decrement (`42_loads.md` R241, R243,
`44_inc_dec.md` R274, R275): the encodings, and the sums modulo 2^16. -/

namespace Sys2Proof.Machine

theorem encode_ldImm16 (r : R16) (v : Word) :
    encode (rowLdImm16 r v) = [0x01 + 16 * r16Index r, v.extractLsb' 0 8, v.extractLsb' 8 8] := by
  cases r <;> rfl

theorem encode_inc16 (r : R16) : encode (rowInc16 r) = [0x03 + 16 * r16Index r] := by cases r <;> rfl

theorem encode_dec16 (r : R16) : encode (rowDec16 r) = [0x0B + 16 * r16Index r] := by cases r <;> rfl

/-- R9, R275: one less in exact arithmetic, modulo 2^16. -/
theorem sub_one_eq_ofInt (v : Word) : v - 1 = BitVec.ofInt 16 ((v.toNat : Int) - 1) := by
  rw [Int.sub_eq_add_neg, BitVec.ofInt_add, BitVec.ofInt_natCast, BitVec.ofNat_toNat, BitVec.setWidth_eq,
    BitVec.sub_eq_add_neg]
  rfl

/-- Settles O35: each row's meaning, with the sums of INC and DEC modulo 2^16. -/
theorem wordRegisters : Obligations.WordRegisters := by
  refine ⟨encode_ldImm16, encode_inc16, encode_dec16, rfl, fun s r v => ⟨exec_ldImm16 r v s, ?_, ?_, rfl⟩⟩
  · rw [exec_inc16, BitVec.add_def]
    rfl
  · rw [exec_dec16, sub_one_eq_ofInt]
    rfl

end Sys2Proof.Machine
end

section
/-! SUPPORT. The 16-bit sums (`42_loads.md` R244, `45_alu.md` R290, R291): the exact sums, and the carries in exact
arithmetic (`10_state.md` R28, R30, R32). -/

namespace Sys2Proof.Machine

theorem encode_addHL (r : R16) : encode (rowAddHL r) = [0x09 + 16 * r16Index r] := by cases r <;> rfl

/-! ## Carries -/

/-- R28: the low four bits are the remainder modulo 16. -/
theorem hcAdd_eq (a b : Byte) (c : Bool) :
    hcAdd a b c = decide (15 < a.toNat % 16 + b.toNat % 16 + c.toNat) := by
  have hlow (v : Byte) : (v &&& 0x0F).toNat = v.toNat % 16 := Nat.and_two_pow_sub_one_eq_mod v.toNat 4
  rw [hcAdd, hlow, hlow]

/-- R32: the low twelve bits are the remainder modulo 4096. -/
theorem hcAdd16_eq (a b : Word) : hcAdd16 a b = decide (4095 < a.toNat % 4096 + b.toNat % 4096) := by
  have hlow (v : Word) : (v &&& 0x0FFF).toNat = v.toNat % 4096 := Nat.and_two_pow_sub_one_eq_mod v.toNat 12
  rw [hcAdd16, hlow, hlow]

/-- R244, R291: the carries are those of SP's low byte. -/
theorem spAddFlags_eq (sp : Word) (n : Byte) :
    spAddFlags sp n = ⟨false, false, decide (15 < sp.toNat % 16 + n.toNat % 16),
      decide (255 < sp.toNat % 256 + n.toNat)⟩ := by
  rw [spAddFlags, hcAdd_eq, cyAdd, loByte_toNat, Nat.mod_mod_of_dvd _ (by decide : 16 ∣ 256)]
  rfl

/-- R290. -/
theorem addHLFlags_eq (hl v : Word) (f : Flags) :
    addHLFlags hl v f = ⟨f.z, false, decide (4095 < hl.toNat % 4096 + v.toNat % 4096),
      decide (65535 < hl.toNat + v.toNat)⟩ := by
  rw [addHLFlags, hcAdd16_eq, cyAdd16]

/-! ## Sums -/

/-- R244, R291: the signed byte is added exactly, modulo 2^16. -/
theorem add_sext16 (sp : Word) (n : Byte) : sp + sext16 n = BitVec.ofInt 16 ((sp.toNat : Int) + n.toInt) := by
  rw [BitVec.ofInt_add, BitVec.ofInt_natCast, BitVec.ofNat_toNat, BitVec.setWidth_eq]
  rfl

/-- Settles O36: each row's meaning, with its sum and flags in exact arithmetic. -/
theorem wordSums : Obligations.WordSums := by
  refine ⟨fun n => rfl, fun n => rfl, encode_addHL, fun s n r => ?_⟩
  rw [← add_sext16, ← spAddFlags_eq, ← addHLFlags_eq, ← BitVec.add_def, exec_addHL]
  exact ⟨rfl, rfl, rfl⟩

end Sys2Proof.Machine
end

section
/-! SUPPORT. The absolute and the high-page loads and stores (`42_loads.md` R242, R245, R246, `46_io_port.md`
R300-R303): a load and a store with the accesses made, and the store's fault. -/

namespace Sys2Proof.Machine

/-! ## The high page (R106) -/

theorem highPage_toNat (n : Byte) : (highPage n).toNat = 0xFF00 + n.toNat := by
  have := n.isLt
  simp only [highPage, zext16, BitVec.toNat_add, BitVec.toNat_setWidth, BitVec.reduceToNat]
  omega

/-- The operand byte fills the eight zero bits of 0xFF00, so that the sum is the bitwise or. -/
theorem highPage_eq_or (n : Byte) : highPage n = 0xFF00 ||| n.setWidth 16 := by
  apply BitVec.eq_of_toNat_eq
  rw [highPage_toNat, BitVec.toNat_or, BitVec.toNat_setWidth_of_le (by decide)]
  exact Nat.two_pow_add_eq_or_of_lt n.isLt 0xFF

/-- R62: the high page lies above the echo region. -/
theorem State.canRead_highPage (s : State) (n : Byte) : s.canRead (highPage n) = true := by
  refine s.canRead_of_region fun hecho => ?_
  have hlast := (region_echo_bounds hecho).2
  rw [highPage_toNat] at hlast
  omega

/-! ## Accesses made, and stores that fault -/

theorem opStoreA_eq {s : State} {a : Word} (h : s.canWrite a = true) (n : Nat) :
    opStoreA a n s = .next { s.poke a s.regs.a with stepCycles := n } := by
  rw [opStoreA, memWrite_eq _ h, andThen_next]
  rfl

theorem opStoreA_eq_fault {s : State} {a : Word} {f : Fault} (h : memWrite a s.regs.a s = .fault f) (n : Nat) :
    opStoreA a n s = .fault f := by
  rw [opStoreA, h, andThen_fault]

theorem opLoadA_eq {s : State} {a : Word} (h : s.canRead a = true) (n : Nat) :
    opLoadA a n s = .next { s.afterRead a with regs := { s.regs with a := s.peek a }, stepCycles := n } := by
  rw [opLoadA, memRead_eq h]
  exact congrArg (fun t : State => (.next (t.took n) : Res State)) (s.setA_afterRead a (s.peek a))

theorem exec_storeSP (a : Word) (s : State) :
    exec (.ld_atA16_sp a) s = andThen (memWrite16 a s.regs.sp s) fun s1 => .next (s1.took 5) := rfl

/-- R242: the store of SP is that of its low byte, then of its high byte. -/
theorem exec_storeSP_eq {s : State} {a : Word} (h1 : s.canWrite a = true) (h2 : s.canWrite (a + 1) = true) :
    exec (.ld_atA16_sp a) s =
      .next { (s.poke a (s.regs.sp.extractLsb' 0 8)).poke (a + 1) (s.regs.sp.extractLsb' 8 8) with stepCycles := 5 } := by
  rw [exec_storeSP, memWrite16_eq _ h1 h2]
  rfl

theorem exec_storeSP_eq_fault_first {s : State} {a : Word} {f : Fault}
    (h : memWrite a (loByte s.regs.sp) s = .fault f) : exec (.ld_atA16_sp a) s = .fault f := by
  rw [exec_storeSP, memWrite16, h, andThen_fault, andThen_fault]

theorem exec_storeSP_eq_fault_second {s : State} {a : Word} {f : Fault} (hw : s.canWrite a = true)
    (h : memWrite (a + 1) (hiByte s.regs.sp) (s.poke a (loByte s.regs.sp)) = .fault f) :
    exec (.ld_atA16_sp a) s = .fault f := by
  rw [exec_storeSP, memWrite16, memWrite_eq _ hw, andThen_next, h, andThen_fault]

/-- Settles O37: the forms of A are `opStoreA` and `opLoadA` of their address, which the high page always lets read. -/
theorem absoluteAndPort : Obligations.AbsoluteAndPort := by
  simp only [Obligations.AbsoluteAndPort, ← highPage_eq_or]
  exact ⟨fun a => rfl, fun a => rfl, fun a => rfl, fun n => rfl, fun n => rfl, rfl, rfl, fun s =>
    ⟨fun _ => exec_storeSP_eq, fun _ h => opStoreA_eq h 4, fun _ h => opLoadA_eq h 4, fun _ h => opStoreA_eq h 3,
      fun n => opLoadA_eq (s.canRead_highPage n) 3, fun h => opStoreA_eq h 2, opLoadA_eq (s.canRead_highPage _) 2,
      fun _ _ => exec_storeSP_eq_fault_first, fun _ _ => exec_storeSP_eq_fault_second,
      fun _ _ h => opStoreA_eq_fault h 4, fun _ _ h => opStoreA_eq_fault h 3, fun _ h => opStoreA_eq_fault h 2⟩⟩

end Sys2Proof.Machine
end

section
/-! SUPPORT. PUSH and POP (`43_push_pop.md` R260-R262): the encodings, and a push and a pop with their accesses made. -/

namespace Sys2Proof.Machine

theorem encode_push (r : R16Stk) : encode (rowPush r) = [0xC5 + 16 * r16StkIndex r] := by cases r <;> rfl

theorem encode_pop (r : R16Stk) : encode (rowPop r) = [0xC1 + 16 * r16StkIndex r] := by cases r <;> rfl

/-- R261: a push whose two stores do not fault. -/
theorem exec_push_eq {s : State} (h1 : s.canWrite (s.regs.sp - 1) = true) (h2 : s.canWrite (s.regs.sp - 2) = true)
    (r : R16Stk) : exec (rowPush r) s = .next ((s.pushed (s.regs.getStk r)).took 4) := by
  have hpush : s.canPush = true := by rw [State.canPush, h1, h2]; rfl
  rw [exec_push, opPush, push16_eq _ hpush, andThen_next]

/-- R262: a pop whose two reads do not fault. -/
theorem exec_pop_eq {s : State} (h1 : s.canRead s.regs.sp = true) (h2 : s.canRead (s.regs.sp + 1) = true)
    (r : R16Stk) : exec (rowPop r) s = .next ((s.popped.setStk r s.popWord).took 3) := by
  rw [exec_pop, opPop, pop16_eq (State.canPop_of_canRead h1 h2), andThen_next]

/-- R21: BC, DE and HL keep every bit of a word; R22 says what AF drops. -/
theorem Regs.getStk_setStk (r : Regs) {x : R16Stk} (v : Word) (h : x ≠ .af) : (r.setStk x v).getStk x = v := by
  cases x with
  | bc => exact joinBytes_hiByte_loByte v
  | de => exact joinBytes_hiByte_loByte v
  | hl => exact joinBytes_hiByte_loByte v
  | af => exact absurd rfl h

/-- R262: POP AF takes A from the high byte and the four flags from bits 7:4 of the low byte. -/
theorem Regs.setStk_af_joinBytes (r : Regs) (hi lo : Byte) :
    r.setStk .af (joinBytes hi lo) = { r with a := hi, f := Flags.ofByte lo } := by
  rw [Regs.setStk, Regs.setAF, hiByte_joinBytes, loByte_joinBytes]

/-- Settles O38: a push answers or faults as `push16` does; a pop writes its pair after `pop16`, whose frame is
`exec_pop_frame`. -/
theorem pushAndPop : Obligations.PushAndPop := by
  refine ⟨encode_push, encode_pop, fun s r h1 h2 => ?_, fun s r f hf => ?_, fun s r f hw hf => ?_,
    fun s h1 h2 => ⟨fun r hr => ?_, ?_⟩⟩
  · rw [exec_push_eq h1 h2, State.pushed_eq]
    rfl
  · exact exec_push_eq_fault (push16_eq_fault_first hf)
  · exact exec_push_eq_fault (push16_eq_fault_second hw hf)
  · have hpop := exec_pop_eq h1 h2 r
    obtain ⟨-, hregs, hsp, hf⟩ := exec_pop_frame hpop
    refine ⟨_, hpop, ?_, Regs.getStk_setStk _ _ hr, hsp, hf hr, hregs⟩
    rw [State.popped_eq_afterRead]
    rfl
  · refine (exec_pop_eq h1 h2 .af).trans ?_
    rw [State.setStk, State.popWord, Regs.setStk_af_joinBytes, State.popped_eq_afterRead]
    rfl

end Sys2Proof.Machine
end

section
/-! SUPPORT. A pop after a push of the same slot (`43_push_pop.md` R263): the two stack bytes have storage of their own, so
the word read back is the word stored, and the pair is written with what it held. -/

namespace Sys2Proof.Machine

/-! ## The two stack bytes (R75, R260) -/

theorem State.home_eq_or (s : State) (a : Word) : s.home a = a ∨ s.home a = a - 0x2000 := by
  unfold State.home
  split
  · cases s.params.echoPolicy with
    | mirror => exact .inr rfl
    | flat => exact .inl rfl
    | fault => exact .inl rfl
  · exact .inl rfl

/-- R46, R67: neighbours have two homes, and the byte after BOOT is not under the boot-ROM overlay. -/
theorem State.touches_succ (s : State) (a : Word) : s.touches a (a + 1) = false := by
  have hhome : s.home a ≠ s.home (a + 1) := by
    rcases s.home_eq_or a with ha | ha <;> rcases s.home_eq_or (a + 1) with hb | hb <;> rw [ha, hb] <;> bv_omega
  have hboot : ¬ (a = 0xFF50 ∧ (a + 1).toNat < 0x100) := by
    rintro ⟨rfl, h⟩
    exact absurd h (by decide)
  rw [State.touches, decide_eq_false hhome, Bool.false_or, ← Bool.decide_and, decide_eq_false hboot]

/-- Whether a location is storage depends on the parameters alone. -/
theorem State.readsBack_congr {s t : State} (h : t.params = s.params) (a : Word) : t.readsBack a = s.readsBack a := by
  simp [State.readsBack, h]

/-- R75: the byte stored at `a + 1`, then the byte stored at `a`, are read back. -/
theorem State.peek_poke_poke {s : State} {a : Word} (hi lo : Byte) (hhi : s.readsBack (a + 1) = true)
    (hlo : s.readsBack a = true) :
    ((s.poke (a + 1) hi).poke a lo).peek a = lo ∧ ((s.poke (a + 1) hi).poke a lo).peek (a + 1) = hi := by
  constructor
  · exact State.peek_poke_same lo (by rwa [State.readsBack_congr (s.poke_params _ _)])
  · rw [State.peek_poke_other _ lo (State.touches_succ _ a), State.peek_poke_same hi hhi]

theorem sub_two_add_one (a : Word) : a - 2 + 1 = a - 1 := by bv_omega

theorem State.peek_took (s : State) (n : Nat) (a : Word) : (s.took n).peek a = s.peek a := by
  unfold State.peek
  cases region a <;> rfl

/-- R260: moving SP changes no byte. -/
theorem State.peek_pushed (s : State) (v a : Word) :
    (s.pushed v).peek a = ((s.poke (s.regs.sp - 1) (hiByte v)).poke (s.regs.sp - 2) (loByte v)).peek a :=
  State.peek_regs _ _ a

/-- R263: the pop reads the word the push stored; the push's cycle count is no part of that. -/
theorem State.popWord_pushed {s : State} (h1 : s.readsBack (s.regs.sp - 1) = true)
    (h2 : s.readsBack (s.regs.sp - 2) = true) (v : Word) (n : Nat) : ((s.pushed v).took n).popWord = v := by
  have hsp : ((s.pushed v).took n).regs.sp = s.regs.sp - 2 := rfl
  have hdrawn := s.drawnAt_of_readsBack h1
  rw [← sub_two_add_one] at h1
  obtain ⟨hlo, hhi⟩ := State.peek_poke_poke (hiByte v) (loByte v) h1 h2
  rw [sub_two_add_one] at hlo hhi
  rw [State.popWord, hsp, sub_two_add_one, State.peek_afterRead _ _ hdrawn, State.peek_took, State.peek_took,
    State.peek_pushed, State.peek_pushed, hlo, hhi, joinBytes_hiByte_loByte]

/-! ## The register file (R21, R22, R263) -/

/-- R22: F has no bits but the flags, so its byte holds them all. -/
theorem Flags.ofByte_toByte (f : Flags) : Flags.ofByte f.toByte = f := by
  simp only [Flags.ofByte, Flags.toByte, BitVec.getLsbD_append, BitVec.getLsbD_ofBool]
  simp

/-- Writing a pair with what it holds changes no register. -/
theorem Regs.setStk_getStk (r : Regs) (x : R16Stk) : r.setStk x (r.getStk x) = r := by
  cases x with
  | bc => simp [Regs.setStk, Regs.getStk, Regs.setBC, Regs.bc, hiByte_joinBytes, loByte_joinBytes]
  | de => simp [Regs.setStk, Regs.getStk, Regs.setDE, Regs.de, hiByte_joinBytes, loByte_joinBytes]
  | hl => exact r.setHL_hl
  | af => simp [Regs.getStk, Regs.af, Regs.setStk_af_joinBytes, Flags.ofByte_toByte]

/-- R263: SP is two lower after the push and two higher after the pop. -/
theorem State.popped_pushed_regs (s : State) (v : Word) (n : Nat) : ((s.pushed v).took n).popped.regs = s.regs := by
  have hpushed : ((s.pushed v).took n).regs = { s.regs with sp := s.regs.sp - 2 } := by rw [State.pushed_eq]; rfl
  rw [State.popped_eq, hpushed, BitVec.sub_add_cancel]

/-- Settles O39: what can be written can be read, so both complete; a pop of the slot pushed leaves every register but the
pair (`State.popped_pushed_regs`), which is written with the word pushed (`State.popWord_pushed`). -/
theorem pushThenPop : Obligations.PushThenPop := by
  intro s r h1 h2
  have hr1 := State.canRead_of_canWrite h1
  rw [← sub_two_add_one] at hr1
  have hr2 := State.canRead_of_canWrite h2
  have hpop := exec_pop_eq (s := (s.pushed (s.regs.getStk r)).took 4) (by simpa [State.pushed] using hr2)
    (by simpa [State.pushed] using hr1) r
  refine ⟨_, _, exec_push_eq h1 h2 r, hpop, ?_, fun hb1 hb2 => ?_⟩
  · rw [State.took_regs, State.setStk_regs, Regs.setStk_sp, State.popped_pushed_regs]
  · rw [State.took_regs, State.setStk_regs, State.popped_pushed_regs, State.popWord_pushed hb1 hb2, Regs.setStk_getStk]

end Sys2Proof.Machine
end

section
/-! SUPPORT. The 8-bit increment and decrement (`44_inc_dec.md` R270-R273): the encodings, the flags in exact arithmetic
(`10_state.md` R28, R29), and a read-modify-write operation with its accesses made or its write faulting. -/

namespace Sys2Proof.Machine

/-! ## Encodings (R110, R116) -/

theorem encode_inc8 (o : Operand8) : encode (rowInc8 o) = [0x04 + 8 * operandIndex o] := by
  rcases o with (_ | _ | _ | _ | _ | _ | _) | _ <;> rfl

theorem encode_dec8 (o : Operand8) : encode (rowDec8 o) = [0x05 + 8 * operandIndex o] := by
  rcases o with (_ | _ | _ | _ | _ | _ | _) | _ <;> rfl

/-! ## Flags -/

/-- R29: the low four bits are the remainder modulo 16. -/
theorem hcSub_eq (a b : Byte) (c : Bool) : hcSub a b c = decide (a.toNat % 16 < b.toNat % 16 + c.toNat) := by
  have hlow (v : Byte) : (v &&& 0x0F).toNat = v.toNat % 16 := Nat.and_two_pow_sub_one_eq_mod v.toNat 4
  rw [hcSub, hlow, hlow]

/-- R28: one more carries out of bit 3 from the low nibble 15 alone. -/
theorem hcAdd_one (v : Byte) : hcAdd v 1 false = decide (v.toNat % 16 = 15) := by
  rw [hcAdd_eq, decide_eq_decide]
  change 15 < v.toNat % 16 + 1 + 0 ↔ _
  omega

/-- R29: one less borrows into bit 3 from the low nibble 0 alone. -/
theorem hcSub_one (v : Byte) : hcSub v 1 false = decide (v.toNat % 16 = 0) := by
  rw [hcSub_eq, decide_eq_decide]
  exact Nat.lt_one_iff

/-- R270, R271: the result is 0 from 0xFF alone. -/
theorem incFlags_eq (v : Byte) (f : Flags) :
    incFlags v f = ⟨decide (v = 0xFF), false, decide (v.toNat % 16 = 15), f.c⟩ := by
  have hz : v + 1 = 0 ↔ v = 0xFF := by bv_omega
  rw [incFlags, hcAdd_one, decide_eq_decide.2 hz]

/-- R272, R273: the result is 0 from 1 alone. -/
theorem decFlags_eq (v : Byte) (f : Flags) :
    decFlags v f = ⟨decide (v = 0x01), true, decide (v.toNat % 16 = 0), f.c⟩ := by
  have hz : v - 1 = 0 ↔ v = 0x01 := by bv_omega
  rw [decFlags, hcSub_one, decide_eq_decide.2 hz]

/-! ## Read-modify-write: the accesses made, and the fault of the write (R110)

An operand that can be written can be read; at HL a read that faults has the fault of the write
(`andThen_readOperand_eq_fault`). -/

theorem andThen_readOperand_eq {s : State} {o : Operand8} {g : Byte × State → Res State}
    (hw : s.canWriteOperand o = true) : andThen (readOperand o s) g = g (s.operand o, s.afterOperand o) := by
  rw [readOperand_eq (State.canReadOperand_of_canWriteOperand hw), andThen_next]

theorem andThen_writeOperand_eq {s : State} {o : Operand8} {v : Byte} {g : State → Res State}
    (hw : s.canWriteOperand o = true) :
    andThen (writeOperand o v (s.afterOperand o)) g = g ((s.afterOperand o).setOperand o v) := by
  rw [writeOperand_eq v (by rwa [State.canWriteOperand_afterOperand]), andThen_next]

theorem andThen_writeOperand_eq_fault {s : State} {v : Byte} {f : Fault} {g : State → Res State}
    (h : memWrite s.regs.hl v (s.afterRead s.regs.hl) = .fault f) :
    andThen (writeOperand .atHL v (s.afterRead s.regs.hl)) g = .fault f := by
  rw [writeOperand, State.afterRead_regs, h, andThen_fault]

/-- R110: writing an operand writes no flag. -/
@[simp] theorem State.setOperand_flags (s : State) (o : Operand8) (v : Byte) :
    (s.setOperand o v).regs.f = s.regs.f := by
  cases o with
  | reg x => exact s.regs.set8_f x v
  | atHL => rw [State.setOperand_atHL_regs]

/-- R270, R271. -/
theorem exec_inc8_eq {s : State} {o : Operand8} (hw : s.canWriteOperand o = true) :
    exec (rowInc8 o) s = .next ((((s.afterOperand o).setOperand o (s.operand o + 1)).setF
      ⟨decide (s.operand o = 0xFF), false, decide ((s.operand o).toNat % 16 = 15), s.regs.f.c⟩).took
        (cyclesBy o 1 3)) := by
  rw [exec_inc8, opInc, andThen_readOperand_eq hw]
  dsimp only
  rw [andThen_writeOperand_eq hw, incFlags_eq, State.setOperand_flags, State.afterOperand_regs]

/-- R272, R273. -/
theorem exec_dec8_eq {s : State} {o : Operand8} (hw : s.canWriteOperand o = true) :
    exec (rowDec8 o) s = .next ((((s.afterOperand o).setOperand o (s.operand o - 1)).setF
      ⟨decide (s.operand o = 0x01), true, decide ((s.operand o).toNat % 16 = 0), s.regs.f.c⟩).took
        (cyclesBy o 1 3)) := by
  rw [exec_dec8, opDec, andThen_readOperand_eq hw]
  dsimp only
  rw [andThen_writeOperand_eq hw, decFlags_eq, State.setOperand_flags, State.afterOperand_regs]

/-- R271. -/
theorem exec_incHL_eq_fault {s : State} {f : Fault}
    (h : memWrite s.regs.hl (s.peek s.regs.hl + 1) (s.afterRead s.regs.hl) = .fault f) :
    exec .inc_atHL s = .fault f :=
  (exec_inc8 .atHL s).trans (andThen_readOperand_eq_fault h fun _ => andThen_writeOperand_eq_fault h)

/-- R273. -/
theorem exec_decHL_eq_fault {s : State} {f : Fault}
    (h : memWrite s.regs.hl (s.peek s.regs.hl - 1) (s.afterRead s.regs.hl) = .fault f) :
    exec .dec_atHL s = .fault f :=
  (exec_dec8 .atHL s).trans (andThen_readOperand_eq_fault h fun _ => andThen_writeOperand_eq_fault h)

/-- R271, R273: the operand at HL stored with its flags; the registers after it are those before but F. -/
theorem State.setOperand_atHL_setF (s : State) (v : Byte) (f : Flags) (n : Nat) :
    (((s.afterOperand .atHL).setOperand .atHL v).setF f).took n =
      { (s.afterRead s.regs.hl).poke s.regs.hl v with regs := { s.regs with f := f }, stepCycles := n } := by
  rw [State.setF, State.setOperand_atHL_regs, State.afterOperand_regs, State.setOperand, State.afterOperand_regs]
  rfl

/-- Settles O40: both operand forms of a row are one equation, where the operand can be written; at HL a write that
faults is the fault of the row. -/
theorem incDecByte : Obligations.IncDecByte := by
  refine ⟨encode_inc8, encode_dec8, fun s => ⟨fun x => exec_inc8_eq (o := .reg x) rfl,
    fun x => exec_dec8_eq (o := .reg x) rfl, fun hw => ⟨?_, ?_⟩, fun _ => exec_incHL_eq_fault,
    fun _ => exec_decHL_eq_fault⟩⟩
  · exact (exec_inc8_eq (o := .atHL) hw).trans (congrArg _ (s.setOperand_atHL_setF _ _ _))
  · exact (exec_dec8_eq (o := .atHL) hw).trans (congrArg _ (s.setOperand_atHL_setF _ _ _))

end Sys2Proof.Machine
end

section
/-! SUPPORT. The 8-bit operations on A (`45_alu.md` R280-R289): the encodings, each operation's result in exact arithmetic
(`10_state.md` R28-R31), and the state a row leaves. -/

namespace Sys2Proof.Machine

/-! ## Encodings (R114, R118, R119) -/

/-- R114, R118: the opcode of a row's first register form, `0x80 + 8 * y`. -/
def aluOpcode : AluOp → Byte
  | .add => 0x80
  | .adc => 0x88
  | .sub => 0x90
  | .sbc => 0x98
  | .and => 0xA0
  | .xor => 0xA8
  | .or => 0xB0
  | .cp => 0xB8

theorem encode_alu (op : AluOp) (o : Operand8) : encode (rowAlu op o) = [aluOpcode op + operandIndex o] := by
  rcases o with (_ | _ | _ | _ | _ | _ | _) | _ <;> cases op <;> rfl

/-- R119: an immediate form stands 0x46 above its row. -/
theorem encode_aluImm (op : AluOp) (n : Byte) : encode (rowAluImm op n) = [aluOpcode op + 0x46, n] := by
  cases op <;> rfl

/-! ## Sums and differences -/

theorem carryByte_eq_ofNat (c : Bool) : carryByte c = BitVec.ofNat 8 c.toNat := by cases c <;> rfl

/-- R281, R282: the sum modulo 2^8 is the exact sum narrowed; it is 0 exactly when 256 divides the exact one. -/
theorem addFlags_eq (a v : Byte) (c : Bool) : addFlags a v c = sumResult a v c.toNat := by
  have hsum : a + v + carryByte c = BitVec.ofNat 8 (a.toNat + v.toNat + c.toNat) := by
    rw [BitVec.ofNat_add, BitVec.ofNat_add, BitVec.ofNat_toNat, BitVec.ofNat_toNat, BitVec.setWidth_eq,
      BitVec.setWidth_eq, carryByte_eq_ofNat]
  have hzero (x : Nat) : BitVec.ofNat 8 x = 0 ↔ x % 256 = 0 := by
    rw [← BitVec.toNat_inj, BitVec.toNat_ofNat]
    rfl
  rw [addFlags, hsum, decide_eq_decide.2 (hzero _), hcAdd_eq, cyAdd]
  rfl

/-- R283, R284: the difference modulo 2^8 is the exact one narrowed; it is 0 exactly when 256 divides that. -/
theorem subFlags_eq (a v : Byte) (c : Bool) : subFlags a v c = diffResult a v c.toNat := by
  have hdiff : a - v - carryByte c = BitVec.ofInt 8 ((a.toNat : Int) - v.toNat - c.toNat) := by
    simp only [Int.sub_eq_add_neg, BitVec.ofInt_add, BitVec.ofInt_neg, BitVec.ofInt_natCast, BitVec.ofNat_toNat,
      BitVec.setWidth_eq, BitVec.sub_eq_add_neg, carryByte_eq_ofNat]
  have hzero (x : Int) : BitVec.ofInt 8 x = 0 ↔ x % 256 = 0 := by
    rw [← BitVec.toNat_inj, BitVec.toNat_ofInt]
    change (x % 256).toNat = 0 ↔ _
    omega
  rw [subFlags, hdiff, decide_eq_decide.2 (hzero _), hcSub_eq, cySub]
  rfl

/-! ## Each operation's result -/

theorem alu_add (a v : Byte) (f : Flags) : alu .add a v f = sumResult a v 0 := addFlags_eq a v false

theorem alu_adc (a v : Byte) (f : Flags) : alu .adc a v f = sumResult a v f.c.toNat := addFlags_eq a v f.c

theorem alu_sub (a v : Byte) (f : Flags) : alu .sub a v f = diffResult a v 0 := subFlags_eq a v false

theorem alu_sbc (a v : Byte) (f : Flags) : alu .sbc a v f = diffResult a v f.c.toNat := subFlags_eq a v f.c

theorem alu_cp (a v : Byte) (f : Flags) : alu .cp a v f = (a, (diffResult a v 0).2) := by rw [← alu_sub a v f]; rfl

theorem alu_and (a v : Byte) (f : Flags) : alu .and a v f = (a &&& v, ⟨decide (a &&& v = 0), false, true, false⟩) := rfl

/-- R286: A XOR v is 0 exactly when they are equal. -/
theorem alu_xor (a v : Byte) (f : Flags) : alu .xor a v f = (a ^^^ v, ⟨decide (a = v), false, false, false⟩) := by
  have hz : a ^^^ v = 0 ↔ a = v := BitVec.xor_eq_zero_iff
  rw [alu, logicFlags, decide_eq_decide.2 hz]

/-- R287: A OR v is 0 exactly when both are. -/
theorem alu_or (a v : Byte) (f : Flags) :
    alu .or a v f = (a ||| v, ⟨decide (a = 0 ∧ v = 0), false, false, false⟩) := by
  have hz : a ||| v = 0 ↔ a = 0 ∧ v = 0 := BitVec.or_eq_zero_iff
  rw [alu, logicFlags, decide_eq_decide.2 hz]

/-! ## The state a row leaves (R280) -/

/-- R280: where the operand can be read, a row writes its result to A and the flags, and nothing else. -/
theorem exec_alu_eq {op : AluOp} {o : Operand8} {s : State} {r : Byte × Flags} (h : s.canReadOperand o = true)
    (hr : alu op s.regs.a (s.operand o) s.regs.f = r) :
    exec (rowAlu op o) s = .next { s.afterOperand o with
      regs := { s.regs with a := r.1, f := r.2 }, stepCycles := cyclesBy o 1 2 } := by
  rw [exec_alu, opAlu, readOperand_eq h, andThen_next]
  dsimp only
  rw [aluApply, State.setF, State.setA, State.afterOperand_regs, hr]
  rfl

theorem exec_aluImm_eq {op : AluOp} {n : Byte} {s : State} {r : Byte × Flags}
    (hr : alu op s.regs.a n s.regs.f = r) :
    exec (rowAluImm op n) s = .next { s with regs := { s.regs with a := r.1, f := r.2 }, stepCycles := 2 } := by
  rw [exec_aluImm, opAluImm, aluApply, hr]
  rfl

/-- Settles O41: the state each row leaves, with its sum in exact arithmetic. -/
theorem addAdc : Obligations.AddAdc :=
  ⟨encode_alu .add, encode_alu .adc, encode_aluImm .add, encode_aluImm .adc,
    fun _ _ h => ⟨exec_alu_eq h (alu_add ..), exec_alu_eq h (alu_adc ..)⟩,
    fun _ _ => ⟨exec_aluImm_eq (alu_add ..), exec_aluImm_eq (alu_adc ..)⟩⟩

/-- Settles O42: the state each row leaves, with its difference in exact arithmetic; CP's result is A itself. -/
theorem subSbcCp : Obligations.SubSbcCp :=
  ⟨encode_alu .sub, encode_alu .sbc, encode_alu .cp, encode_aluImm .sub, encode_aluImm .sbc, encode_aluImm .cp,
    fun _ _ h => ⟨exec_alu_eq h (alu_sub ..), exec_alu_eq h (alu_sbc ..), exec_alu_eq h (alu_cp ..)⟩,
    fun _ _ => ⟨exec_aluImm_eq (alu_sub ..), exec_aluImm_eq (alu_sbc ..), exec_aluImm_eq (alu_cp ..)⟩⟩

/-- Settles O43: the state each row leaves, with Z as the rules give it. -/
theorem andXorOr : Obligations.AndXorOr :=
  ⟨encode_alu .and, encode_alu .xor, encode_alu .or, encode_aluImm .and, encode_aluImm .xor, encode_aluImm .or,
    fun _ _ h => ⟨exec_alu_eq h (alu_and ..), exec_alu_eq h (alu_xor ..), exec_alu_eq h (alu_or ..)⟩,
    fun _ _ => ⟨exec_aluImm_eq (alu_and ..), exec_aluImm_eq (alu_xor ..), exec_aluImm_eq (alu_or ..)⟩⟩

/-! ## The laws of the operations (R289) -/

theorem alu_add_toNat (a v : Byte) (f : Flags) : (alu .add a v f).1.toNat = (a.toNat + v.toNat) % 256 := by
  rw [alu_add]
  exact BitVec.toNat_ofNat ..

/-- R281: the sum leaves 8 bits. -/
theorem alu_add_carry (a v : Byte) (f : Flags) : (alu .add a v f).2.c = true ↔ 256 ≤ a.toNat + v.toNat := by
  rw [alu_add]
  exact decide_eq_true_iff

theorem alu_sub_toNat (a v : Byte) (f : Flags) : (alu .sub a v f).1.toNat = (a.toNat + 256 - v.toNat) % 256 := by
  change (a - v - 0).toNat = _
  bv_omega

/-- R283: the operand exceeds A. -/
theorem alu_sub_borrow (a v : Byte) (f : Flags) : (alu .sub a v f).2.c = true ↔ a.toNat < v.toNat := by
  rw [alu_sub]
  exact decide_eq_true_iff

/-- R282, R284: with C = 0 nothing is added to the operand. -/
theorem alu_without_carry (a v : Byte) {f : Flags} (h : f.c = false) :
    alu .adc a v f = alu .add a v f ∧ alu .sbc a v f = alu .sub a v f := by
  rw [alu_adc, alu_add, alu_sbc, alu_sub, h]
  exact ⟨rfl, rfl⟩

/-- R285-R287: the flags of the logic operations but Z. -/
theorem alu_logic_flags {op : AluOp} (hop : op = .and ∨ op = .xor ∨ op = .or) (a v : Byte) (f : Flags) :
    (alu op a v f).2.n = false ∧ (alu op a v f).2.c = false ∧ ((alu op a v f).2.h = true ↔ op = .and) := by
  rcases hop with rfl | rfl | rfl
  · exact ⟨rfl, rfl, iff_of_true rfl rfl⟩
  · exact ⟨rfl, rfl, iff_of_false Bool.false_ne_true (by decide)⟩
  · exact ⟨rfl, rfl, iff_of_false Bool.false_ne_true (by decide)⟩

/-- R281-R288: of the flags before, an operation reads C alone. -/
theorem alu_congr_carry (op : AluOp) (a v : Byte) {f g : Flags} (h : g.c = f.c) : alu op a v g = alu op a v f := by
  cases op with
  | adc => rw [alu_adc, alu_adc, h]
  | sbc => rw [alu_sbc, alu_sbc, h]
  | add | sub | and | xor | or | cp => rfl

/-- R22: the low four bits of F are 0, as a write of F drops them. -/
theorem Flags.toByte_and_low (f : Flags) : f.toByte &&& 0x0F = 0 := by
  rw [← Flags.ofByte_toByte f, Flags.toByte_ofByte, BitVec.and_assoc]
  exact BitVec.and_zero

/-- Settles O44: one lemma per law. -/
theorem aluLaws : Obligations.AluLaws := fun a v f =>
  ⟨alu_add_toNat a v f, alu_add_carry a v f, alu_without_carry a v, alu_sub_toNat a v f, alu_sub_borrow a v f, rfl,
    fun _ hop => alu_logic_flags hop a v f, fun op _ h => congrArg Prod.snd (alu_congr_carry op a v h),
    fun op => (alu op a v f).2.toByte_and_low⟩

end Sys2Proof.Machine
end

section
/-! SUPPORT. The extended rotates, shifts and SWAP (`47_ext_rotate_shift.md` R310-R318): the encodings, each operation
as the bit vectors' own rotation or shift, and the state a row leaves. -/

namespace Sys2Proof.Machine

/-- R120. -/
theorem encode_rot (op : RotOp) (o : Operand8) :
    encode (rowRot op o) = [0xCB, 8 * rotIndex op + operandIndex o] := by
  rcases o with (_ | _ | _ | _ | _ | _ | _) | _ <;> cases op <;> rfl

/-! ## A shift by one that takes a carry in, bit by bit -/

theorem getElem_carryByte (c : Bool) {i : Nat} (hi : i < 8) : (carryByte c)[i] = (c && decide (i = 0)) := by
  cases c <;> simp [carryByte]

theorem getElem_shiftLeft_or_carry (v : Byte) (c : Bool) {i : Nat} (hi : i < 8) :
    (v <<< 1 ||| carryByte c)[i] = if h : i < 1 then c else v[i - 1] := by
  cases i <;> simp [getElem_carryByte]

theorem getElem_ushiftRight_or_carry (v : Byte) (c : Bool) {i : Nat} (hi : i < 8) :
    (v >>> 1 ||| carryByte c <<< 7)[i] = if h : i < 7 then v[1 + i] else c := by
  by_cases h : i < 7
  · simp [h, BitVec.getLsbD_eq_getElem (show 1 + i < 8 by omega)]
  · obtain rfl : i = 7 := by omega
    simp [getElem_carryByte]

/-! ## Each operation's result -/

/-- R313. -/
theorem shiftLeft_or_carry (v : Byte) (c : Bool) :
    v <<< 1 ||| carryByte c = v.extractLsb' 0 7 ++ BitVec.ofBool c := by
  ext i hi
  rw [getElem_shiftLeft_or_carry, BitVec.getElem_append (x := v.extractLsb' 0 7)]
  split
  · simp
  · rw [BitVec.getElem_extractLsb', Nat.zero_add, BitVec.getLsbD_eq_getElem]

/-- R314. -/
theorem ushiftRight_or_carry (v : Byte) (c : Bool) :
    v >>> 1 ||| carryByte c <<< 7 = BitVec.ofBool c ++ v.extractLsb' 1 7 := by
  ext i hi
  rw [getElem_ushiftRight_or_carry, BitVec.getElem_append (y := v.extractLsb' 1 7)]
  split
  · rw [BitVec.getElem_extractLsb', BitVec.getLsbD_eq_getElem]
  · simp

/-- R311: bit 7 comes in at bit 0. -/
theorem shiftLeft_or_msb (v : Byte) : v <<< 1 ||| carryByte v.msb = v.rotateLeft 1 := by
  ext i hi
  rw [getElem_shiftLeft_or_carry, BitVec.getElem_rotateLeft]
  refine dite_congr rfl (fun h => ?_) fun _ => rfl
  obtain rfl := Nat.lt_one_iff.1 h
  rfl

/-- R312: bit 0 comes in at bit 7. -/
theorem ushiftRight_or_lsb (v : Byte) : v >>> 1 ||| carryByte (v.getLsbD 0) <<< 7 = v.rotateRight 1 := by
  ext i hi
  rw [getElem_ushiftRight_or_carry, BitVec.getElem_rotateRight]
  refine dite_congr rfl (fun _ => rfl) fun h => ?_
  obtain rfl : i = 7 := Nat.eq_of_lt_succ_of_not_lt hi h
  rfl

/-- R316: the sign bit alone. -/
theorem and_0x80 (v : Byte) : v &&& (0x80 : Byte) = carryByte v.msb <<< 7 := by
  change v &&& BitVec.twoPow 8 7 = carryByte (v.getLsbD 7) <<< 7
  rw [BitVec.and_twoPow]
  cases v.getLsbD 7 <;> rfl

/-- R316: bit 7 stays. -/
theorem ushiftRight_or_sign (v : Byte) : v >>> 1 ||| (v &&& 0x80) = v.sshiftRight 1 := by
  ext i hi
  rw [and_0x80, getElem_ushiftRight_or_carry, BitVec.getElem_sshiftRight]
  exact dite_congr (propext (by omega)) (fun _ => rfl) fun _ => rfl

/-- R317. -/
theorem shiftLeft_or_ushiftRight_four (v : Byte) :
    v <<< 4 ||| v >>> 4 = v.extractLsb' 0 4 ++ v.extractLsb' 4 4 := by
  ext i hi
  rw [BitVec.getElem_append (y := v.extractLsb' 4 4)]
  by_cases h : i < 4
  · simp [h]
  · have hhigh : v.getLsbD (4 + i) = false := BitVec.getLsbD_of_ge _ _ (by omega)
    simp [h, hhigh, BitVec.getLsbD_eq_getElem (show i - 4 < 8 by omega)]

/-- R311-R318: SLA (R315) and SRL (R318) are RL and RR with the carry clear, but for the bit moved out. -/
theorem rot_eq (op : RotOp) (v : Byte) (c : Bool) : rot op v c = rotResult op v c := by
  cases op with
  | rlc => exact congrArg (·, v.msb) (shiftLeft_or_msb v)
  | rrc => exact congrArg (·, v.getLsbD 0) (ushiftRight_or_lsb v)
  | rl => exact congrArg (·, v.msb) (shiftLeft_or_carry v c)
  | rr => exact congrArg (·, v.getLsbD 0) (ushiftRight_or_carry v c)
  | sla => exact congrArg (·, v.msb) (BitVec.or_zero.symm.trans (shiftLeft_or_carry v false))
  | sra => exact congrArg (·, v.getLsbD 0) (ushiftRight_or_sign v)
  | swap => exact congrArg (·, false) (shiftLeft_or_ushiftRight_four v)
  | srl => exact congrArg (·, v.getLsbD 0) (BitVec.or_zero.symm.trans (ushiftRight_or_carry v false))

/-! ## The state a row leaves, and the fault of its write (R310) -/

theorem exec_rot_eq {op : RotOp} {s : State} {o : Operand8} (hw : s.canWriteOperand o = true) :
    exec (rowRot op o) s = .next ((((s.afterOperand o).setOperand o (rotResult op (s.operand o) s.regs.f.c).1).setF
      (rotFlags (rotResult op (s.operand o) s.regs.f.c).1 (rotResult op (s.operand o) s.regs.f.c).2)).took
        (cyclesBy o 2 4)) := by
  rw [exec_rot, opRot, andThen_readOperand_eq hw]
  dsimp only
  rw [andThen_writeOperand_eq hw, State.afterOperand_regs, rot_eq]

theorem exec_rotHL_eq_fault {op : RotOp} {s : State} {f : Fault}
    (h : memWrite s.regs.hl (rotResult op (s.peek s.regs.hl) s.regs.f.c).1 (s.afterRead s.regs.hl) = .fault f) :
    exec (rowRot op .atHL) s = .fault f := by
  rw [exec_rot]
  refine andThen_readOperand_eq_fault h fun _ => ?_
  dsimp only
  rw [State.afterRead_regs, rot_eq]
  exact andThen_writeOperand_eq_fault h

/-- Settles O45: both operand forms of a row are one equation, where the operand can be written, its result the bit
vectors' own rotation or shift; at HL a write that faults is the fault of the row. -/
theorem rotateShift : Obligations.RotateShift := by
  refine ⟨encode_rot, fun s op => ⟨fun x => exec_rot_eq (o := .reg x) rfl, fun hw => ?_,
    fun _ => exec_rotHL_eq_fault⟩⟩
  exact (exec_rot_eq (o := .atHL) hw).trans (congrArg _ (s.setOperand_atHL_setF _ _ _))

end Sys2Proof.Machine
end

section
/-! SUPPORT. The devices' invariant (`60_exceptions.md` R431-R448) along a step: the timer, the scanline controller and
the parameters are all it speaks of. -/

namespace Sys2Proof.Machine

theorem State.devicesWf_acknowledge (s : State) (k : Nat) : (s.acknowledge k).devicesWf = s.devicesWf := rfl

theorem devicesWf_finishInstr (ei : Bool) (s : State) : (finishInstr ei s).devicesWf = s.devicesWf := rfl

theorem devicesWf_haltedStep (s : State) : (haltedStep s).devicesWf = s.devicesWf := by
  unfold haltedStep
  split <;> rfl

/-- Settles O14: by the case split of R100; the CPU's part reaches the timer by its stores alone (`Reach.devicesWf`),
and the devices' advance is `devicesWf_advanceDevices`. -/
theorem stepKeepsDevices : Obligations.StepKeepsDevices := by
  intro s t hs h
  rcases step_eq_next h with ⟨-, rfl⟩ | ⟨-, u, hd, rfl⟩ | ⟨-, i, u, v, hf, he, rfl⟩
  · exact devicesWf_advanceDevices (by rwa [devicesWf_haltedStep])
  · exact devicesWf_advanceDevices ((dispatch_reach hd).devicesWf (by rwa [State.devicesWf_acknowledge]))
  · have hcpu : Reach s v := (fetchInstr_reach hf).1.trans (exec_reach he)
    exact devicesWf_advanceDevices (by rw [devicesWf_finishInstr]; exact hcpu.devicesWf hs)

end Sys2Proof.Machine
end

section
/-! SUPPORT. The dot and the line of the scanline controller (`60_exceptions.md` R440-R446): where a dot goes, the position
in the frame, and the V-blank request. -/

namespace Sys2Proof.Machine

/-- R441: the counters after a dot that ends its scanline. -/
theorem Ppu.dotStep_of_lineEnds {p : Params} {u : Ppu} (l : Byte) (m : Mem) (h : u.lineEnds p = true) :
    (u.dotStep p l m).dot = 0 ∧ (u.dotStep p l m).line = nextLine p u.line := by
  obtain ⟨hd, hl, -, -⟩ := Ppu.transferDot_spec p l m u
  have hends : (u.transferDot p l m).lineEnds p = true := by rwa [Ppu.lineEnds, hd]
  rw [Ppu.dotStep, Ppu.countDot, if_pos hends, ← hl]
  unfold Ppu.endLine
  split
  · exact ⟨rfl, rfl⟩
  · split <;> exact ⟨rfl, rfl⟩

/-- R441: the counters after any other dot. -/
theorem Ppu.dotStep_of_not_lineEnds {p : Params} {u : Ppu} (l : Byte) (m : Mem) (h : u.lineEnds p = false) :
    (u.dotStep p l m).dot = u.dot + 1 ∧ (u.dotStep p l m).line = u.line := by
  obtain ⟨hd, hl, -, -⟩ := Ppu.transferDot_spec p l m u
  have hends : (u.transferDot p l m).lineEnds p = false := by rwa [Ppu.lineEnds, hd]
  rw [Ppu.dotStep, Ppu.countDot, hends, if_neg Bool.false_ne_true, ← hd, ← hl]
  split <;> exact ⟨rfl, rfl⟩

theorem paramsSane_iff {p : Params} : paramsSane p = true ↔
    0 < p.oamSearchDots ∧ 0 < p.transferDots ∧ p.oamSearchDots + p.transferDots < p.dotsPerLine ∧
    p.dotsPerLine < 0x10000 ∧ 0 < p.visibleLines ∧ p.visibleLines < p.linesPerFrame ∧ p.linesPerFrame < 0x100 := by
  simp only [paramsSane, Bool.and_eq_true, decide_eq_true_eq, and_assoc]

theorem State.devicesWf_iff {s : State} :
    s.devicesWf = true ↔ paramsSane s.params = true ∧ s.timer.wf = true ∧ s.ppu.wf s.params = true := by
  simp only [State.devicesWf, Bool.and_eq_true, and_assoc]

/-- R442: in range, the dot counter does not wrap at its width. -/
theorem Ppu.toNat_dot_succ {p : Params} {u : Ppu} (hp : paramsSane p = true) (hu : u.wf p = true) :
    (u.dot + 1).toNat = u.dot.toNat + 1 := by
  obtain ⟨-, -, -, hmax, -⟩ := paramsSane_iff.1 hp
  obtain ⟨hdot, -⟩ := Ppu.wf_iff.1 hu
  rw [BitVec.toNat_add_of_lt (by change _ + 1 < _; omega)]
  rfl

/-- R441: the dot that ends its scanline is the last of it. -/
theorem Ppu.lineEnds_eq {p : Params} {u : Ppu} (hp : paramsSane p = true) (hu : u.wf p = true) :
    u.lineEnds p = decide (u.dot.toNat + 1 = p.dotsPerLine) := by
  rw [Ppu.lineEnds, Ppu.toNat_dot_succ hp hu]

/-- R442: the line after a line in range, in numbers. -/
theorem toNat_nextLine {p : Params} {line : Byte} (hp : paramsSane p = true) (hl : line.toNat < p.linesPerFrame) :
    (nextLine p line).toNat = if line.toNat + 1 = p.linesPerFrame then 0 else line.toNat + 1 := by
  obtain ⟨-, -, -, -, -, -, hmax⟩ := paramsSane_iff.1 hp
  have hsucc : (line + 1).toNat = line.toNat + 1 := BitVec.toNat_add_of_lt (by change _ + 1 < _; omega)
  rw [nextLine, hsucc, apply_ite BitVec.toNat, hsucc]
  rfl

/-! ## The position in the frame (R440-R442) -/

/-- R442: the dots since the frame began. -/
def Ppu.position (p : Params) (u : Ppu) : Nat := u.line.toNat * p.dotsPerLine + u.dot.toNat

/-- R442: a position of the frame is below the frame's number of dots. -/
theorem position_lt {lines dots line dot : Nat} (hl : line < lines) (hd : dot < dots) :
    line * dots + dot < dots * lines := by
  calc line * dots + dot < (line + 1) * dots := by rw [Nat.succ_mul]; omega
    _ ≤ lines * dots := Nat.mul_le_mul_right dots hl
    _ = dots * lines := Nat.mul_comm lines dots

/-- R441, R442: one dot moves the position by one, around the frame's end. -/
theorem Ppu.position_dotStep {p : Params} {u : Ppu} (l : Byte) (m : Mem) (hp : paramsSane p = true)
    (hu : u.wf p = true) :
    (u.dotStep p l m).position p = (u.position p + 1) % (p.dotsPerLine * p.linesPerFrame) := by
  have hdot := Ppu.toNat_dot_succ hp hu
  obtain ⟨hd, hl, -, -⟩ := Ppu.wf_iff.1 hu
  unfold Ppu.position
  cases hends : u.lineEnds p with
  | true =>
    obtain ⟨hd', hl'⟩ := Ppu.dotStep_of_lineEnds l m hends
    have hlast : u.dot.toNat + 1 = p.dotsPerLine := by simpa [Ppu.lineEnds_eq hp hu] using hends
    have hpos : u.line.toNat * p.dotsPerLine + u.dot.toNat + 1 = (u.line.toNat + 1) * p.dotsPerLine := by
      rw [Nat.add_assoc, hlast, Nat.succ_mul]
    rw [hd', hl', hpos, toNat_nextLine hp hl]
    split
    · next hframe => rw [hframe, Nat.mul_comm p.linesPerFrame, Nat.mod_self, Nat.zero_mul]; rfl
    · exact (Nat.mod_eq_of_lt (position_lt (dot := 0) (by omega) (by omega))).symm
  | false =>
    obtain ⟨hd', hl'⟩ := Ppu.dotStep_of_not_lineEnds l m hends
    have hlast : u.dot.toNat + 1 ≠ p.dotsPerLine := by simpa [Ppu.lineEnds_eq hp hu] using hends
    rw [hd', hl', hdot, Nat.add_assoc]
    exact (Nat.mod_eq_of_lt (position_lt hl (by omega))).symm

/-- R441: the position after any number of dots. -/
theorem ppuRun_position (n : Nat) {s : State} (hp : paramsSane s.params = true) (hu : s.ppu.wf s.params = true) :
    (ppuRun n s).ppu.position s.params =
      (s.ppu.position s.params + n) % (s.params.dotsPerLine * s.params.linesPerFrame) := by
  induction n generalizing s with
  | zero =>
    obtain ⟨hd, hl, -, -⟩ := Ppu.wf_iff.1 hu
    exact (Nat.mod_eq_of_lt (position_lt hl hd)).symm
  | succ n ih =>
    calc (ppuRun n (ppuDotStep s)).ppu.position s.params
        = ((ppuDotStep s).ppu.position s.params + n) % (s.params.dotsPerLine * s.params.linesPerFrame) :=
          ih (s := ppuDotStep s) hp (Ppu.wf_dotStep _ _ hp hu)
      _ = ((s.ppu.position s.params + 1) % (s.params.dotsPerLine * s.params.linesPerFrame) + n) %
            (s.params.dotsPerLine * s.params.linesPerFrame) := by rw [← Ppu.position_dotStep _ _ hp hu]; rfl
      _ = (s.ppu.position s.params + (n + 1)) % (s.params.dotsPerLine * s.params.linesPerFrame) := by
          rw [Nat.mod_add_mod, Nat.add_assoc, Nat.add_comm 1 n]

/-- Settles O58: with the LCD on, dot by dot (`ppuRun_position`); with it off, `ppu_tick` is the reset. -/
theorem framePosition : Obligations.FramePosition := by
  refine ⟨fun s n hon hs => ?_, rfl, fun s n hoff => ?_⟩
  · obtain ⟨hp, -, hu⟩ := State.devicesWf_iff.1 hs
    rw [ppuTick, if_pos hon]
    exact ppuRun_position n hp hu
  · rw [ppuTick, hoff, if_neg Bool.false_ne_true]
    rfl

/-! ## The V-blank request (R443, R446) -/

theorem modeAt_eq_vblank_iff {p : Params} {line dot : Nat} : modeAt p line dot = .vblank ↔ p.visibleLines ≤ line := by
  refine ⟨fun h => ?_, modeAt_vblank dot⟩
  by_contra hlt
  rw [modeAt, if_neg hlt] at h
  split at h
  · exact nomatch h
  · split at h <;> exact nomatch h

/-- R443: the mode is V-blank exactly on the lines below the visible ones. -/
theorem Ppu.mode_eq_vblank_iff {p : Params} {u : Ppu} (hu : u.wf p = true) :
    u.mode = .vblank ↔ p.visibleLines ≤ u.line.toNat := by
  obtain ⟨-, -, hm, -⟩ := Ppu.wf_iff.1 hu
  rw [hm, modeAt_eq_vblank_iff]

/-- R441, R446: the request is due exactly when the dot leaves the controller at the start of the first non-visible
line. -/
theorem Ppu.entersVBlank_iff {p : Params} {u : Ppu} (l : Byte) (m : Mem) (hp : paramsSane p = true)
    (hu : u.wf p = true) :
    u.entersVBlank p = true ↔ (u.dotStep p l m).line.toNat = p.visibleLines ∧ (u.dotStep p l m).dot = 0 := by
  rw [Ppu.entersVBlank]
  cases hends : u.lineEnds p with
  | true =>
    obtain ⟨hd', hl'⟩ := Ppu.dotStep_of_lineEnds l m hends
    simp [hd', hl']
  | false =>
    obtain ⟨hd', -⟩ := Ppu.dotStep_of_not_lineEnds l m hends
    have hne : u.dot + 1 ≠ 0 := fun h0 => by
      have hsucc := Ppu.toNat_dot_succ hp hu
      rw [h0] at hsucc
      exact nomatch hsucc
    exact iff_of_false Bool.false_ne_true fun h => hne (hd'.symm.trans h.2)

/-- R441, R443: the first non-visible line is entered from the last visible one. -/
theorem Ppu.entersVBlank_iff_mode {p : Params} {u : Ppu} (l : Byte) (m : Mem) (hp : paramsSane p = true)
    (hu : u.wf p = true) :
    u.entersVBlank p = true ↔ (u.dotStep p l m).mode = .vblank ∧ u.mode ≠ .vblank := by
  obtain ⟨-, -, -, -, hvis, hlines, -⟩ := paramsSane_iff.1 hp
  obtain ⟨-, hl, -, -⟩ := Ppu.wf_iff.1 hu
  rw [Ppu.entersVBlank, Ne, Ppu.mode_eq_vblank_iff hu, Ppu.mode_eq_vblank_iff (Ppu.wf_dotStep l m hp hu)]
  cases hends : u.lineEnds p with
  | true =>
    obtain ⟨-, hl'⟩ := Ppu.dotStep_of_lineEnds l m hends
    rw [hl', Bool.true_and, decide_eq_true_iff, toNat_nextLine hp hl]
    split <;> omega
  | false =>
    obtain ⟨-, hl'⟩ := Ppu.dotStep_of_not_lineEnds l m hends
    rw [hl', Bool.false_and]
    exact iff_of_false Bool.false_ne_true fun h => h.2 h.1

/-- Settles O59: both are the dot that `Ppu.entersVBlank` marks, on which alone IF changes. -/
theorem vBlankRequest : Obligations.VBlankRequest := by
  intro s hs
  obtain ⟨hp, -, hu⟩ := State.devicesWf_iff.1 hs
  have hiff := Ppu.entersVBlank_iff s.lcdc s.ram hp hu
  exact ⟨(Ppu.entersVBlank_iff_mode s.lcdc s.ram hp hu).symm.trans hiff, if_congr hiff rfl rfl⟩

end Sys2Proof.Machine
end

section
/-! SUPPORT. The pixel queue along a dot (`60_exceptions.md` R441, R445, R447, R448). -/

namespace Sys2Proof.Machine

/-- R445: the phase's work leaves the queue as it was, or appends the eight pixels of a tile row to a short one. -/
theorem Ppu.fetchPhase_queue (th : Nat) (l : Byte) (m : Mem) (u : Ppu) :
    (Ppu.fetchPhase th l m u).queue = u.queue ∨
    (u.queue.length ≤ th ∧ (Ppu.fetchPhase th l m u).queue = u.queue ++ tilePixels u.hi u.lo) := by
  unfold Ppu.fetchPhase
  split
  · exact .inl rfl
  · exact .inl rfl
  · exact .inl rfl
  · split
    · next hq => exact .inr ⟨hq, rfl⟩
    · exact .inl rfl

/-- R445: the same of an invocation; the divider lets every other one through. -/
theorem Ppu.fetcherInvoke_queue (th : Nat) (l : Byte) (m : Mem) (u : Ppu) :
    (u.fetcherInvoke th l m).queue = u.queue ∨
    (u.queue.length ≤ th ∧ (u.fetcherInvoke th l m).queue = u.queue ++ tilePixels u.hi u.lo) := by
  unfold Ppu.fetcherInvoke
  split
  · exact Ppu.fetchPhase_queue th l m { u with fetchDiv := false }
  · exact .inl rfl

/-- R441, R445: counting a dot keeps the queue, or empties it at a line start. -/
theorem Ppu.length_countDot_le (p : Params) (u : Ppu) : (u.countDot p).queue.length ≤ u.queue.length := by
  unfold Ppu.countDot
  split
  · unfold Ppu.endLine
    split
    · exact le_rfl
    · split
      · exact Nat.zero_le _
      · exact le_rfl
  · split <;> exact le_rfl

/-- Settles O60: an invocation is `Ppu.fetcherInvoke_queue`; within a dot the pop takes what the refill is over the bound
(`Ppu.transferDot_spec`). -/
theorem fetcherBatches : Obligations.FetcherBatches := by
  refine ⟨fun th l m u => ?_, fun p l m u hq => ?_⟩
  · rcases Ppu.fetcherInvoke_queue th l m u with hsame | ⟨hshort, happend⟩
    · exact .inl hsame
    · exact .inr ⟨hshort, tilePixels u.hi u.lo, rfl, happend⟩
  · obtain ⟨-, -, -, hbound⟩ := Ppu.transferDot_spec p l m u
    exact (Ppu.length_countDot_le p _).trans (hbound hq)

end Sys2Proof.Machine
end

section
/-! SUPPORT. The timer over many invocations (`60_exceptions.md` R430-R437): counting the divider's periods outside an
overflow window, and the window from its arming to its reload. -/

namespace Sys2Proof.Machine

/-! ## One invocation by its cases (R431, R434) -/

theorem Timer.window_of_not_pending {t : Timer} (h : t.ovfPending = false) : t.window = t := by
  rw [Timer.window, h, if_neg Bool.false_ne_true]

theorem Timer.window_of_pending {t : Timer} (h : t.ovfPending = true) (hs : t.ovfStep + 1 ≠ 4) :
    t.window = { t with ovfStep := t.ovfStep + 1 } := by
  rw [Timer.window, if_pos h, if_neg hs]

theorem Timer.edge_of_not_falls {t : Timer} (h : t.falls = false) : t.edge = { t with lastTap := t.tap } := by
  rw [Timer.edge, h, if_neg Bool.false_ne_true]

theorem Timer.edge_of_falls {t : Timer} (h : t.falls = true) (hw : t.tima + 1 ≠ 0) :
    t.edge = { t with tima := t.tima + 1, lastTap := t.tap } := by
  rw [Timer.edge, if_pos h, if_neg hw]

theorem Timer.edge_of_wraps {t : Timer} (h : t.falls = true) (hw : t.tima + 1 = 0) :
    t.edge = { t with
      tima := 0, ovfPending := true, ovfStep := 0, reloadArmed := true, irqArmed := true, lastTap := t.tap } := by
  rw [Timer.edge, if_pos h, if_pos hw]

/-- R431: an edge adds one to TIMA, also where it wraps. -/
theorem Timer.edge_tima (t : Timer) : t.edge.tima = if t.falls then t.tima + 1 else t.tima := by
  cases hf : t.falls with
  | false => rw [Timer.edge_of_not_falls hf]; rfl
  | true =>
    by_cases hw : t.tima + 1 = 0
    · rw [Timer.edge_of_wraps hf hw]; exact hw.symm
    · rw [Timer.edge_of_falls hf hw]; rfl

/-- R431: the edge detector moves neither the divider nor TAC, and remembers the tap. -/
theorem Timer.edge_spec (t : Timer) :
    t.edge.divCounter = t.divCounter ∧ t.edge.tac = t.tac ∧ t.edge.lastTap = t.edge.tap := by
  unfold Timer.edge
  split
  · split <;> exact ⟨rfl, rfl, rfl⟩
  · exact ⟨rfl, rfl, rfl⟩

theorem Timer.window_spec (t : Timer) :
    t.window.divCounter = t.divCounter ∧ t.window.tac = t.tac := by
  unfold Timer.window
  split
  · split <;> exact ⟨rfl, rfl⟩
  · exact ⟨rfl, rfl⟩

/-- R430, R431: every invocation counts the divider, leaves TAC, and remembers the tap. -/
theorem Timer.invoke_spec (t : Timer) :
    t.invoke.divCounter = t.divCounter + 1 ∧ t.invoke.tac = t.tac ∧ t.invoke.lastTap = t.invoke.tap := by
  obtain ⟨hd, hc⟩ := t.count.window_spec
  obtain ⟨hd', hc', hl⟩ := t.count.window.edge_spec
  exact ⟨hd'.trans hd, hc'.trans hc, hl⟩

theorem Timer.invoke_of_not_pending {t : Timer} (h : t.ovfPending = false) : t.invoke = t.count.edge :=
  congrArg Timer.edge (Timer.window_of_not_pending (t := t.count) h)

/-! ## Counting (R432, R437) -/

/-- R437: the whole periods of a select that a divider passes in `n` invocations. -/
def periodsPassed (sel : Nat) (d : Word) (n : Nat) : Nat :=
  (d.toNat + n) / timerPeriod sel - d.toNat / timerPeriod sel

/-- R430: the divider wraps at its 16 bits. -/
theorem toNat_divider_succ (d : Word) : (d + 1).toNat = (d.toNat + 1) % 65536 := BitVec.toNat_add d 1

/-- R432: the tapped bit falls exactly when the divider passes a period, also where it wraps. -/
theorem periodsPassed_one (d : Word) {sel : Nat} (hsel : sel < 4) :
    periodsPassed sel d 1 =
      if d.getLsbD (tapBit sel) = true ∧ (d + 1).getLsbD (tapBit sel) = false then 1 else 0 := by
  simp only [periodsPassed, BitVec.getLsbD, Nat.testBit_eq_decide_div_mod_eq, toNat_divider_succ, decide_eq_true_eq,
    decide_eq_false_iff_not]
  split
  · next hfalls => interval_cases sel <;> simp only [timerPeriod, tapBit] at hfalls ⊢ <;> omega
  · next hkeeps => interval_cases sel <;> simp only [timerPeriod, tapBit] at hkeeps ⊢ <;> omega

/-- R430: the divider's wrap is a whole number of periods, so the periods of a run add up. -/
theorem periodsPassed_succ (d : Word) (n : Nat) {sel : Nat} (hsel : sel < 4) :
    periodsPassed sel d (n + 1) = periodsPassed sel d 1 + periodsPassed sel (d + 1) n := by
  simp only [periodsPassed, toNat_divider_succ]
  interval_cases sel <;> simp only [timerPeriod] <;> omega

theorem Timer.tap_of_enabled {t : Timer} (hen : t.tac.getLsbD 2 = true) :
    t.tap = t.divCounter.getLsbD (tapBit (t.tac.toNat % 4)) := by
  rw [Timer.tap, hen, Bool.true_and]

/-- R431, R432: enabled and outside a window, an invocation sees a falling edge exactly when the divider passes a
period. -/
theorem Timer.falls_count {t : Timer} (hen : t.tac.getLsbD 2 = true) (hp : t.ovfPending = false)
    (hl : t.lastTap = t.tap) :
    t.count.falls.toNat = periodsPassed (t.tac.toNat % 4) t.divCounter 1 := by
  have hfalls : t.count.falls = (t.tap && !t.count.tap) := by
    change (t.lastTap && !t.count.tap && !t.ovfPending) = _
    rw [hl, hp, Bool.not_false, Bool.and_true]
  have htap : t.count.tap = (t.divCounter + 1).getLsbD (tapBit (t.tac.toNat % 4)) :=
    Timer.tap_of_enabled (t := t.count) hen
  rw [hfalls, periodsPassed_one _ (Nat.mod_lt _ (by decide)), ← Timer.tap_of_enabled hen, ← htap]
  cases t.tap <;> cases t.count.tap <;> rfl

/-- R431: an invocation that wraps nothing adds the period passed to TIMA, and opens no window. -/
theorem Timer.invoke_counts {t : Timer} (hen : t.tac.getLsbD 2 = true) (hp : t.ovfPending = false)
    (hl : t.lastTap = t.tap) (hle : t.tima.toNat + periodsPassed (t.tac.toNat % 4) t.divCounter 1 ≤ 255) :
    t.invoke.tima.toNat = t.tima.toNat + periodsPassed (t.tac.toNat % 4) t.divCounter 1 ∧
    t.invoke.ovfPending = false := by
  rw [← Timer.falls_count hen hp hl] at hle ⊢
  rw [Timer.invoke_of_not_pending hp]
  cases hf : t.count.falls with
  | false => rw [Timer.edge_of_not_falls hf]; exact ⟨rfl, hp⟩
  | true =>
    rw [hf] at hle
    have hsucc : (t.tima + 1).toNat = t.tima.toNat + 1 := BitVec.toNat_add_of_lt (Nat.lt_succ_of_le hle)
    have hw : t.count.tima + 1 ≠ 0 := fun h0 => nomatch hsucc.symm.trans (congrArg BitVec.toNat h0)
    rw [Timer.edge_of_falls hf hw]
    exact ⟨hsucc, hp⟩

/-- R437: a run that wraps nothing. -/
theorem Timer.run_counts (n : Nat) {t : Timer} (hen : t.tac.getLsbD 2 = true) (hp : t.ovfPending = false)
    (hl : t.lastTap = t.tap) (hle : t.tima.toNat + periodsPassed (t.tac.toNat % 4) t.divCounter n ≤ 255) :
    (t.run n).tima.toNat = t.tima.toNat + periodsPassed (t.tac.toNat % 4) t.divCounter n ∧
    (t.run n).ovfPending = false ∧ (t.run n).divCounter = t.divCounter + BitVec.ofNat 16 n := by
  induction n generalizing t with
  | zero => exact ⟨by simp [Timer.run, periodsPassed], hp, (BitVec.add_zero _).symm⟩
  | succ n ih =>
    rw [periodsPassed_succ _ _ (Nat.mod_lt _ (by decide)), ← Nat.add_assoc] at hle ⊢
    obtain ⟨htima, hp'⟩ := Timer.invoke_counts hen hp hl (by omega)
    obtain ⟨hdiv, htac, hl'⟩ := t.invoke_spec
    obtain ⟨hrun, hpending, hcounter⟩ := ih (t := t.invoke) (by rwa [htac]) hp' hl' (by rwa [htima, htac, hdiv])
    refine ⟨by rwa [htima, htac, hdiv] at hrun, hpending, hcounter.trans ?_⟩
    rw [hdiv, BitVec.add_assoc, Nat.add_comm n, BitVec.ofNat_add]
    rfl

/-- Settles O56: invocation by invocation, each adding the period it passes (`Timer.invoke_counts`). -/
theorem timerCounts : Obligations.TimerCounts := fun _ n hen hp hl hle => Timer.run_counts n hen hp hl hle

/-! ## The overflow window (R434, R436) -/

/-- R434: a window `k` invocations old with both latches still armed, TIMA and TMA as given. -/
structure Timer.Armed (k : Fin 5) (tima tma : Byte) (t : Timer) : Prop where
  pending : t.ovfPending = true
  step : t.ovfStep = k
  reload : t.reloadArmed = true
  irq : t.irqArmed = true
  tima : t.tima = tima
  tma : t.tma = tma

theorem Timer.Armed.windowEnds {t : Timer} {k : Fin 5} {v m : Byte} (h : t.Armed k v m) :
    t.windowEnds = decide (k + 1 = 4) := by
  rw [Timer.windowEnds, h.pending, h.step, Bool.true_and]

/-- R434: before its fourth invocation a window only grows older; an edge inside it is not counted. -/
theorem Timer.Armed.invoke {t : Timer} {k : Fin 5} {v m : Byte} (h : t.Armed k v m) (hk : k + 1 ≠ 4) :
    t.invoke.Armed (k + 1) v m ∧ t.requests = false := by
  have hw : t.count.window = { t.count with ovfStep := t.ovfStep + 1 } :=
    Timer.window_of_pending (t := t.count) h.pending (by rwa [← h.step] at hk)
  have hfalls : t.count.window.falls = false := by
    rw [hw, Timer.falls]
    exact (congrArg (_ && !·) h.pending).trans (Bool.and_false _)
  rw [Timer.invoke, Timer.edge_of_not_falls hfalls, hw, Timer.requests, h.windowEnds, decide_eq_false hk]
  exact ⟨⟨h.pending, congrArg (· + 1) h.step, h.reload, h.irq, h.tima, h.tma⟩, rfl⟩

/-- R434, R436: the fourth reloads TIMA and requests the interrupt, and then counts an edge of its own. -/
theorem Timer.Armed.invoke_last {t : Timer} {v m : Byte} (h : t.Armed 3 v m) :
    t.invoke.tima = (if t.lastTap = true ∧ t.count.tap = false then m + 1 else m) ∧ t.requests = true := by
  have hw : t.count.window = { t.count with
      tima := m, ovfPending := false, ovfStep := 0, reloadArmed := false, irqArmed := false } := by
    rw [Timer.window, if_pos (show t.count.ovfPending = true from h.pending),
      if_pos (show t.count.ovfStep + 1 = 4 by exact (congrArg (· + 1) h.step)),
      if_pos (show t.count.reloadArmed = true from h.reload), ← h.tma]
    rfl
  refine ⟨?_, by rw [Timer.requests, h.windowEnds, h.irq]; rfl⟩
  have hfalls : t.count.window.falls = (t.lastTap && !t.count.tap) := by
    rw [hw, Timer.falls]
    exact Bool.and_true _
  rw [Timer.invoke, Timer.edge_tima, hfalls, hw]
  simp

/-- R431: a run goes on from the state a shorter one leaves. -/
theorem timerRun_succ (n : Nat) (s : State) : timerRun (n + 1) s = timerInvoke (timerRun n s) := by
  induction n generalizing s with
  | zero => rfl
  | succ n ih => exact ih (timerInvoke s)

/-- R434: the first three invocations of a window. -/
theorem timerRun_armed {s : State} {v m : Byte} (h : s.timer.Armed 0 v m) {n : Nat} (hn : n < 4) :
    (timerRun n s).timer.Armed (Fin.ofNat 5 n) v m ∧ (timerRun n s).iflag = s.iflag := by
  induction n with
  | zero => exact ⟨h, rfl⟩
  | succ n ih =>
    obtain ⟨harmed, hif⟩ := ih (by omega)
    have hk : Fin.ofNat 5 n + 1 ≠ 4 ∧ Fin.ofNat 5 n + 1 = Fin.ofNat 5 (n + 1) := by
      have : n < 3 := Nat.lt_of_succ_lt_succ hn
      interval_cases n <;> decide
    obtain ⟨hinvoke, hreq⟩ := harmed.invoke hk.1
    rw [timerRun_succ]
    refine ⟨hk.2 ▸ hinvoke, ?_⟩
    rw [timerInvoke, hreq, if_neg Bool.false_ne_true, hif]

/-- Settles O57: the wrap arms the window (`Timer.edge_of_wraps`), which is followed to its fourth invocation. -/
theorem timerOverflow : Obligations.TimerOverflow := by
  refine ⟨fun t hp hl htap htima => ?_, fun s hp hs hr hi => ?_⟩
  · have hfalls : t.count.falls = true := by
      rw [Timer.falls, htap]
      simp [Timer.count, hl, hp]
    have hwraps : t.count.tima + 1 = 0 := by
      change t.tima + 1 = 0
      rw [htima]
      rfl
    have hno : t.requests = false := by rw [Timer.requests, Timer.windowEnds, hp]; rfl
    rw [Timer.invoke_of_not_pending hp, Timer.edge_of_wraps hfalls hwraps]
    exact ⟨rfl, rfl, rfl, rfl, rfl, hno⟩
  · have hopen : s.timer.Armed 0 s.timer.tima s.timer.tma := ⟨hp, hs, hr, hi, rfl, rfl⟩
    obtain ⟨hthree, hif⟩ := timerRun_armed hopen (n := 3) (by decide)
    obtain ⟨htima, hreq⟩ := Timer.Armed.invoke_last hthree
    refine ⟨fun n hn => ?_, ?_, ?_⟩
    · obtain ⟨harmed, hsame⟩ := timerRun_armed hopen (Nat.lt_succ_of_le hn)
      exact ⟨harmed.tima, hsame, harmed.pending⟩
    · rw [timerRun_succ, timerInvoke, hreq, if_pos rfl, hif]
    · rw [timerRun_succ]
      exact htima

end Sys2Proof.Machine
end

section
/-! SUPPORT. Taking an interrupt (`60_exceptions.md` R411-R413): which request is dispatched, and the step that does it. -/

namespace Sys2Proof.Machine

/-- R411: a request is pending when it is enabled and requested. -/
theorem State.getLsbD_pending (s : State) (k : Fin 5) :
    s.pending.getLsbD k.val = (s.ie.getLsbD k.val && s.iflag.getLsbD k.val) := by
  simp [State.pending]

/-- R411: the lowest set bit is the one below which no bit is set. -/
theorem lowestBit_eq : ∀ (p : BitVec 5) (k : Fin 5), p.getLsbD k.val = true →
    (∀ j : Fin 5, j < k → p.getLsbD j.val = false) → lowestBit p = k.val := by
  decide

/-- R100, R411: a running machine with IME 1 and a request pending dispatches. -/
theorem step_of_dispatch {s : State} (hf : s.faults = []) (hr : s.runState = .running) (hi : s.ime = true)
    (hp : s.pending ≠ 0) : step s = andThen (dispatch s) fun t => .next (advanceDevices t) := by
  simp only [step, s.stepKind_eq_dispatch_iff.2 ⟨hf, hr, hi, hp⟩]

/-- Settles O9: the dispatched request is the lowest (`lowestBit_eq`); the push answers (`dispatch_eq`) or SP stands at
IE (`dispatch_eq_fault`). -/
theorem interruptDispatch : Obligations.InterruptDispatch := by
  intro s k hf hr hi hk hlow
  simp only [← State.getLsbD_pending] at hk hlow
  have hp : s.pending ≠ 0 := fun h0 => by simp [h0] at hk
  rw [step_of_dispatch hf hr hi hp]
  refine ⟨fun h0 h1 hw1 hw2 => ?_, fun hsp => ?_⟩
  · rw [dispatch_eq h0 h1 (by rw [State.canPush, hw1, hw2]; rfl), lowestBit_eq _ k hk hlow, andThen_next]
    rw [State.pushed, State.setSP, State.poke_regs, State.poke_regs]
    rfl
  · rw [dispatch_eq_fault hsp, raise, andThen_fault]
    rfl

end Sys2Proof.Machine
end

section
/-! SUPPORT. What a fault carries (`60_exceptions.md` R400, R401), said once for each part of R100's step: the state it
leaves was reached by the step's work so far, with the one record the fault added. -/

namespace Sys2Proof.Machine

/-- R401: a fault this outcome answers was raised at a state reached from `s`, and joined the record there. -/
def FaultsFrom {α : Type} (s : State) (o : Res α) : Prop :=
  ∀ f, o = .fault f → ∃ (r : FaultRecord) (u : State), Reach s u ∧ f = faultOf r (recordFault r u)

theorem FaultsFrom.next {α : Type} {s : State} (x : α) : FaultsFrom s (.next x : Res α) := by
  intro f hf
  cases hf

theorem FaultsFrom.of_raise {α : Type} {s u : State} (r : FaultRecord) (h : Reach s u) :
    FaultsFrom s (raise r u : Res α) := by
  intro f hf
  cases hf
  exact ⟨r, u, h, rfl⟩

theorem FaultsFrom.trans {α : Type} {s t : State} {o : Res α} (h : Reach s t) (ho : FaultsFrom t o) :
    FaultsFrom s o := by
  intro f hf
  obtain ⟨r, u, hu, rfl⟩ := ho f hf
  exact ⟨r, u, h.trans hu, rfl⟩

/-- R401: a sequence faults in its first part, or in what comes after it. -/
theorem FaultsFrom.bind {α β : Type} {s : State} {o : Res α} {g : α → Res β} (ho : FaultsFrom s o)
    (hg : ∀ x, o = .next x → FaultsFrom s (g x)) : FaultsFrom s (andThen o g) := by
  cases o with
  | next x => exact hg x rfl
  | fault r => intro f hf; cases hf; exact ho r rfl
  | refused r => intro f hf; cases hf

/-- A last part that only answers a state adds no fault. -/
theorem FaultsFrom.bind_next {α β : Type} {s : State} {o : Res α} {g : α → Res β} (ho : FaultsFrom s o)
    (hg : ∀ x, ∃ y, g x = .next y) : FaultsFrom s (andThen o g) := by
  refine ho.bind fun x _ => ?_
  obtain ⟨y, hy⟩ := hg x
  rw [hy]
  exact .next y

/-! ## The accesses (R12, R48, R67, R260) -/

theorem memRead_faultsFrom {s t : State} (h : Reach s t) (a : Word) : FaultsFrom s (memRead a t) := by
  unfold memRead
  split
  · exact .of_raise _ h
  · exact .next _

theorem memWrite_faultsFrom {s t : State} (h : Reach s t) (a : Word) (v : Byte) : FaultsFrom s (memWrite a v t) := by
  unfold memWrite
  split
  · exact .of_raise _ h
  · split
    · exact .of_raise _ h
    · exact .next _

theorem readOperand_faultsFrom (o : Operand8) (s : State) : FaultsFrom s (readOperand o s) := by
  cases o with
  | reg r => exact .next _
  | atHL => exact memRead_faultsFrom .refl _

theorem writeOperand_faultsFrom {s t : State} (h : Reach s t) (o : Operand8) (v : Byte) :
    FaultsFrom s (writeOperand o v t) := by
  cases o with
  | reg r => exact .next _
  | atHL => exact memWrite_faultsFrom h _ v

theorem push16_faultsFrom (v : Word) (s : State) : FaultsFrom s (push16 v s) := by
  refine (memWrite_faultsFrom (Reach.refl.regs _) _ _).bind fun t ht => ?_
  obtain ⟨hw, rfl⟩ := memWrite_eq_next ht
  exact memWrite_faultsFrom (((Reach.refl.regs _).store _ _ hw).regs _) _ _

theorem pop16_faultsFrom (s : State) : FaultsFrom s (pop16 s) := by
  refine (memRead_faultsFrom .refl _).bind fun x hx => ?_
  obtain ⟨-, -, hs⟩ := memRead_eq_next hx
  exact (memRead_faultsFrom (hs ▸ (Reach.refl.afterRead _).regs _) _).bind_next fun _ => ⟨_, rfl⟩

theorem fetch8_faultsFrom (s : State) : FaultsFrom s (fetch8 s) :=
  (memRead_faultsFrom .refl _).bind_next fun _ => ⟨_, rfl⟩

theorem fetch8_reach {s : State} {x : Byte × State} (h : fetch8 s = .next x) : Reach s x.2 := by
  obtain ⟨-, -, hs⟩ := fetch8_eq_next h
  rw [hs]
  exact (Reach.refl.afterRead _).setPC _

/-! ## The operations of the instruction families -/

/-- An operand read, the result written back, then CPU fields. -/
theorem modify_faultsFrom {o : Operand8} {s : State} (f : Byte → State → Byte) (g : Byte → State → State → State) :
    FaultsFrom s (andThen (readOperand o s) fun (v, s1) =>
      andThen (writeOperand o (f v s1) s1) fun s2 => .next (g v s1 s2)) := by
  refine (readOperand_faultsFrom o s).bind fun x hx => ?_
  obtain ⟨-, -, hs⟩ := readOperand_eq_next hx
  exact (writeOperand_faultsFrom (hs ▸ Reach.refl.afterOperand o) o _).bind_next fun _ => ⟨_, rfl⟩

theorem opRot_faultsFrom (op : RotOp) (o : Operand8) (s : State) : FaultsFrom s (opRot op o s) :=
  modify_faultsFrom (fun v s1 => (rot op v s1.regs.f.c).1)
    fun v s1 s2 => (s2.setF (rotFlags (rot op v s1.regs.f.c).1 (rot op v s1.regs.f.c).2)).took (cyclesBy o 2 4)

theorem opBit_faultsFrom (b : Fin 8) (o : Operand8) (s : State) : FaultsFrom s (opBit b o s) :=
  (readOperand_faultsFrom o s).bind_next fun _ => ⟨_, rfl⟩

theorem opRes_faultsFrom (b : Fin 8) (o : Operand8) (s : State) : FaultsFrom s (opRes b o s) :=
  modify_faultsFrom (fun v _ => resBit b v) fun _ _ s2 => s2.took (cyclesBy o 2 4)

theorem opSet_faultsFrom (b : Fin 8) (o : Operand8) (s : State) : FaultsFrom s (opSet b o s) :=
  modify_faultsFrom (fun v _ => setBit b v) fun _ _ s2 => s2.took (cyclesBy o 2 4)

theorem opExtended_faultsFrom (op : Byte) (s : State) : FaultsFrom s (opExtended op s) := by
  unfold opExtended
  split
  · exact opRot_faultsFrom _ _ s
  · exact opBit_faultsFrom _ _ s
  · exact opRes_faultsFrom _ _ s
  · exact opSet_faultsFrom _ _ s

theorem opStoreA_faultsFrom (a : Word) (n : Nat) (s : State) : FaultsFrom s (opStoreA a n s) :=
  (memWrite_faultsFrom .refl _ _).bind_next fun _ => ⟨_, rfl⟩

theorem opLoadA_faultsFrom (a : Word) (n : Nat) (s : State) : FaultsFrom s (opLoadA a n s) :=
  (memRead_faultsFrom .refl _).bind_next fun _ => ⟨_, rfl⟩

theorem opCall_faultsFrom (a : Word) (n : Nat) (s : State) : FaultsFrom s (opCall a n s) :=
  (push16_faultsFrom _ s).bind_next fun _ => ⟨_, rfl⟩

theorem opRet_faultsFrom (n : Nat) (s : State) : FaultsFrom s (opRet n s) :=
  (pop16_faultsFrom s).bind_next fun _ => ⟨_, rfl⟩

theorem opHalt_faultsFrom (s : State) : FaultsFrom s (opHalt s) := by
  unfold opHalt
  split
  · exact .next _
  · split
    · exact .next _
    · split
      · exact .of_raise _ .refl
      · exact .next _

/-- R401, R402: the faults of every instruction. -/
theorem exec_faultsFrom (i : Instr) (s : State) : FaultsFrom s (exec i s) := by
  cases shape_of i with
  | nop | stop | di | ei | jr | jp | jpHL | ldSPHL | ldHLSP | addSP | rlca | rrca | rla | rra | daa | cpl | scf | ccf =>
    exact .next _
  | halt => exact opHalt_faultsFrom s
  | jrCond cc n =>
    rw [exec_jrCond, opJrCond]
    split <;> exact .next _
  | jpCond cc a =>
    rw [exec_jpCond, opJpCond]
    split <;> exact .next _
  | call a => exact opCall_faultsFrom a _ s
  | callCond cc a =>
    rw [exec_callCond, opCallCond]
    split
    · exact opCall_faultsFrom a _ s
    · exact .next _
  | ret => exact opRet_faultsFrom _ s
  | retCond cc =>
    rw [exec_retCond, opRetCond]
    split
    · exact opRet_faultsFrom _ s
    · exact .next _
  | reti => exact ((pop16_faultsFrom s).bind_next fun _ => ⟨_, rfl⟩).bind_next fun _ => ⟨_, rfl⟩
  | rst y =>
    rw [exec_rst]
    exact opCall_faultsFrom _ _ s
  | ld dst src hd =>
    rw [exec_ld hd]
    refine (readOperand_faultsFrom src s).bind fun x hx => ?_
    obtain ⟨-, -, hs⟩ := readOperand_eq_next hx
    exact (writeOperand_faultsFrom (hs ▸ Reach.refl.afterOperand src) dst _).bind_next fun _ => ⟨_, rfl⟩
  | ldImm dst n =>
    rw [exec_ldImm]
    exact (writeOperand_faultsFrom .refl dst n).bind_next fun _ => ⟨_, rfl⟩
  | storeIndirect k =>
    rw [exec_storeIndirect]
    exact (memWrite_faultsFrom .refl _ _).bind_next fun _ => ⟨_, rfl⟩
  | loadIndirect k =>
    rw [exec_loadIndirect]
    exact (memRead_faultsFrom .refl _).bind_next fun _ => ⟨_, rfl⟩
  | ldImm16 r v => rw [exec_ldImm16]; exact .next _
  | storeSP a =>
    refine FaultsFrom.bind_next ((memWrite_faultsFrom .refl _ _).bind fun t ht => ?_) fun _ => ⟨_, rfl⟩
    obtain ⟨hw, rfl⟩ := memWrite_eq_next ht
    exact memWrite_faultsFrom (Reach.refl.store _ _ hw) _ _
  | storeAbs | ldhStore | storeC => exact opStoreA_faultsFrom _ _ s
  | loadAbs | ldhLoad | loadC => exact opLoadA_faultsFrom _ _ s
  | push r =>
    rw [exec_push]
    exact (push16_faultsFrom _ s).bind_next fun _ => ⟨_, rfl⟩
  | pop r =>
    rw [exec_pop]
    exact (pop16_faultsFrom s).bind_next fun _ => ⟨_, rfl⟩
  | inc8 o =>
    rw [exec_inc8]
    exact modify_faultsFrom (fun v _ => v + 1) fun v _ s2 => (s2.setF (incFlags v s2.regs.f)).took (cyclesBy o 1 3)
  | dec8 o =>
    rw [exec_dec8]
    exact modify_faultsFrom (fun v _ => v - 1) fun v _ s2 => (s2.setF (decFlags v s2.regs.f)).took (cyclesBy o 1 3)
  | inc16 r => rw [exec_inc16]; exact .next _
  | dec16 r => rw [exec_dec16]; exact .next _
  | alu op o =>
    rw [exec_alu]
    exact (readOperand_faultsFrom o s).bind_next fun _ => ⟨_, rfl⟩
  | aluImm op n => rw [exec_aluImm]; exact .next _
  | addHL r => rw [exec_addHL]; exact .next _
  | rot op o => rw [exec_rot]; exact opRot_faultsFrom op o s
  | bit b o => rw [exec_bit]; exact opBit_faultsFrom b o s
  | res b o => rw [exec_res]; exact opRes_faultsFrom b o s
  | set b o => rw [exec_set]; exact opSet_faultsFrom b o s
  | prefixed =>
    refine (fetch8_faultsFrom s).bind fun x hx => ?_
    have hreach := fetch8_reach hx
    dsimp only
    split
    · exact .of_raise _ hreach
    · exact (opExtended_faultsFrom _ _).trans hreach
  | absent op ha => rw [exec_absent ha]; exact .of_raise _ .refl

/-! ## The parts of a step -/

theorem fetchOperands_faultsFrom (op : Byte) (s : State) : FaultsFrom s (fetchOperands op s) := by
  unfold fetchOperands
  split
  · exact .next _
  · exact (fetch8_faultsFrom s).bind_next fun _ => ⟨_, rfl⟩
  · refine (fetch8_faultsFrom s).bind fun x hx => ?_
    exact ((fetch8_faultsFrom x.2).trans (fetch8_reach hx)).bind_next fun _ => ⟨_, rfl⟩

theorem fetchExtended_faultsFrom (s : State) : FaultsFrom s (fetchExtended s) := by
  refine (fetch8_faultsFrom s).bind fun x hx => ?_
  dsimp only
  split
  · exact .of_raise _ (fetch8_reach hx)
  · exact .next _

theorem Reach.afterOpcode {s t : State} (h : Reach s t) : Reach s (afterOpcode t) := by
  rw [afterOpcode_eq]
  exact h.cpu t.regs _ t.ime t.eiPending t.runState false t.draws t.stepCycles t.opAddr

theorem fetchInstr_faultsFrom (s : State) : FaultsFrom s (fetchInstr s) := by
  have hstart : Reach s { s with opAddr := s.pc } :=
    Reach.refl.cpu s.regs s.pc s.ime s.eiPending s.runState s.haltBug s.draws s.stepCycles s.pc
  refine FaultsFrom.bind ((memRead_faultsFrom hstart _).bind_next fun _ => ⟨_, rfl⟩) fun x hx => ?_
  obtain ⟨-, -, hs⟩ := fetchOpcode_eq_next hx
  have hreach : Reach s x.2 := hs ▸ (hstart.afterRead _).afterOpcode
  dsimp only
  split
  · exact (fetchExtended_faultsFrom _).trans hreach
  · split
    · exact .next _
    · split
      · exact .of_raise _ hreach
      · exact (fetchOperands_faultsFrom _ _).trans hreach

/-- R412: with SP at IE a dispatch faults before any change, and else as its push does, after the acknowledgement. -/
theorem dispatch_eq_fault_cases {s : State} {f : Fault} (h : dispatch s = .fault f) :
    ∃ (r : FaultRecord) (u : State), (Reach s u ∨ Reach (s.acknowledge (lowestBit s.pending)) u) ∧
      f = faultOf r (recordFault r u) := by
  unfold dispatch at h
  split at h
  · obtain ⟨r, u, hu, hf⟩ := FaultsFrom.of_raise _ .refl f h
    exact ⟨r, u, .inl hu, hf⟩
  · obtain ⟨r, u, hu, hf⟩ := (push16_faultsFrom _ _).bind_next (fun _ => ⟨_, rfl⟩) f h
    exact ⟨r, u, .inr hu, hf⟩

/-- R100, R102: the faults of a step that executes. -/
theorem executeStep_faultsFrom (s : State) : FaultsFrom s (andThen (fetchInstr s) fun (i, u) =>
    andThen (exec i u) fun t => .next (advanceDevices (finishInstr s.eiPending t))) := by
  refine (fetchInstr_faultsFrom s).bind fun x hx => ?_
  obtain ⟨hreach, -⟩ := fetchInstr_reach hx
  exact ((exec_faultsFrom x.1 x.2).trans hreach).bind_next fun _ => ⟨_, rfl⟩

theorem State.stepKind_ne_faulted {s : State} (h : s.faults = []) : s.stepKind ≠ .faulted := by
  rw [State.stepKind, if_neg (not_not_intro h)]
  cases s.runState with
  | stopped => exact nofun
  | halted => exact nofun
  | running => dsimp only; split <;> exact nofun

theorem State.stepKind_ne_stopped {s : State} (h : s.runState ≠ .stopped) : s.stepKind ≠ .stopped := by
  unfold State.stepKind
  split
  · exact nofun
  · cases hr : s.runState with
    | stopped => exact absurd hr h
    | halted => exact nofun
    | running => dsimp only; split <;> exact nofun

/-- R100, R401: a live machine's step faults while it dispatches or executes, never while it waits. -/
theorem step_eq_fault {s : State} {f : Fault} (hs : s.faults = []) (hr : s.runState ≠ .stopped)
    (h : step s = .fault f) :
    ∃ (r : FaultRecord) (u : State), (Reach s u ∨ Reach (s.acknowledge (lowestBit s.pending)) u) ∧
      f = faultOf r (recordFault r u) := by
  unfold step at h
  cases hk : s.stepKind <;> simp only [hk] at h
  case faulted => exact absurd hk (State.stepKind_ne_faulted hs)
  case stopped => exact absurd hk (State.stepKind_ne_stopped hr)
  case halted => cases h
  case dispatch =>
    cases hd : dispatch s with
    | next u => rw [hd] at h; cases h
    | fault r => rw [hd] at h; cases h; exact dispatch_eq_fault_cases hd
    | refused r => rw [hd] at h; cases h
  case execute =>
    obtain ⟨r, u, hu, hf⟩ := executeStep_faultsFrom s f h
    exact ⟨r, u, .inl hu, hf⟩

/-- Settles O17: the state the fault leaves was reached by the CPU's work, which keeps what `Reach.constants` says, with
the record added. -/
theorem faultEndsStep : Obligations.FaultEndsStep := by
  intro s f hs hr h
  obtain ⟨r, u, hu, hf⟩ := step_eq_fault hs hr h
  obtain ⟨hparams, hboot, hcart, -, hhit, hfaults, hppu⟩ := hu.elim Reach.constants Reach.constants
  exact ⟨r, recordFault r u, hf, by rw [recordFault_faults, hfaults, hs], hppu, hhit, hboot, hcart, hparams,
    step_of_faults (List.cons_ne_nil r u.faults)⟩

end Sys2Proof.Machine
end

section
/-! SUPPORT. The extended bit operations (`48_ext_bit.md` R330-R332): the encodings, each bit of a result, and the state a
row leaves. -/

namespace Sys2Proof.Machine

/-! ## Encodings (R120) -/

theorem encode_bit (b : Fin 8) (o : Operand8) :
    encode (rowBit b o) = [0xCB, 0x40 + 8 * BitVec.ofNat 8 b.val + operandIndex o] := by
  rcases o with (_ | _ | _ | _ | _ | _ | _) | _ <;> fin_cases b <;> rfl

theorem encode_res (b : Fin 8) (o : Operand8) :
    encode (rowRes b o) = [0xCB, 0x80 + 8 * BitVec.ofNat 8 b.val + operandIndex o] := by
  rcases o with (_ | _ | _ | _ | _ | _ | _) | _ <;> fin_cases b <;> rfl

theorem encode_set (b : Fin 8) (o : Operand8) :
    encode (rowSet b o) = [0xCB, 0xC0 + 8 * BitVec.ofNat 8 b.val + operandIndex o] := by
  rcases o with (_ | _ | _ | _ | _ | _ | _) | _ <;> fin_cases b <;> rfl

/-! ## The results, bit by bit -/

/-- R331, R332: the mask `1 << b` is bit `b` alone. -/
theorem getLsbD_mask (b j : Fin 8) : (1#8 <<< b.val).getLsbD j.val = decide (j = b) := by
  rw [← BitVec.twoPow_eq, BitVec.getLsbD_twoPow]
  simp [Fin.ext_iff, eq_comm]

theorem getLsbD_resBit (b : Fin 8) (v : Byte) (j : Fin 8) :
    (resBit b v).getLsbD j.val = (v.getLsbD j.val && decide (j ≠ b)) := by
  rw [resBit, BitVec.getLsbD_and, BitVec.getLsbD_not, getLsbD_mask, decide_eq_true j.isLt, Bool.true_and, ← decide_not]

theorem getLsbD_setBit (b : Fin 8) (v : Byte) (j : Fin 8) :
    (setBit b v).getLsbD j.val = (v.getLsbD j.val || decide (j = b)) := by
  rw [setBit, BitVec.getLsbD_or, getLsbD_mask]

/-! ## The state a row leaves, and the fault of its write -/

/-- R330. -/
theorem exec_bit_eq {b : Fin 8} {o : Operand8} {s : State} (h : s.canReadOperand o = true) :
    exec (rowBit b o) s = .next { s.afterOperand o with
      regs := { s.regs with f := ⟨!(s.operand o).getLsbD b.val, false, true, s.regs.f.c⟩ },
      stepCycles := cyclesBy o 2 3 } := by
  rw [exec_bit, opBit, readOperand_eq h, andThen_next]
  dsimp only
  rw [State.setF, State.afterOperand_regs]
  rfl

/-- R331. -/
theorem exec_res_eq {b : Fin 8} {o : Operand8} {s : State} (hw : s.canWriteOperand o = true) :
    exec (rowRes b o) s =
      .next (((s.afterOperand o).setOperand o (resBit b (s.operand o))).took (cyclesBy o 2 4)) := by
  rw [exec_res, opRes, andThen_readOperand_eq hw]
  exact andThen_writeOperand_eq hw

/-- R332. -/
theorem exec_set_eq {b : Fin 8} {o : Operand8} {s : State} (hw : s.canWriteOperand o = true) :
    exec (rowSet b o) s =
      .next (((s.afterOperand o).setOperand o (setBit b (s.operand o))).took (cyclesBy o 2 4)) := by
  rw [exec_set, opSet, andThen_readOperand_eq hw]
  exact andThen_writeOperand_eq hw

/-- R110: the operand at HL, stored. -/
theorem State.setOperand_atHL_took (s : State) (v : Byte) (n : Nat) :
    ((s.afterOperand .atHL).setOperand .atHL v).took n =
      { (s.afterRead s.regs.hl).poke s.regs.hl v with stepCycles := n } := by
  rw [State.setOperand, State.afterOperand_regs]
  rfl

theorem exec_resHL_eq_fault {b : Fin 8} {s : State} {f : Fault}
    (h : memWrite s.regs.hl (resBit b (s.peek s.regs.hl)) (s.afterRead s.regs.hl) = .fault f) :
    exec (rowRes b .atHL) s = .fault f :=
  (exec_res .atHL s b).trans (andThen_readOperand_eq_fault h fun _ => andThen_writeOperand_eq_fault h)

theorem exec_setHL_eq_fault {b : Fin 8} {s : State} {f : Fault}
    (h : memWrite s.regs.hl (setBit b (s.peek s.regs.hl)) (s.afterRead s.regs.hl) = .fault f) :
    exec (rowSet b .atHL) s = .fault f :=
  (exec_set .atHL s b).trans (andThen_readOperand_eq_fault h fun _ => andThen_writeOperand_eq_fault h)

/-- Settles O46: the rows' states with `resBit` and `setBit` as the two functions, which change that bit alone; at HL a
write that faults is the fault of the row. -/
theorem bitResSet : Obligations.BitResSet := by
  refine ⟨fun b o => ⟨encode_bit b o, encode_res b o, encode_set b o⟩, fun s b => ⟨fun o => exec_bit_eq, resBit b,
    setBit b, fun v j => ⟨getLsbD_resBit b v j, getLsbD_setBit b v j⟩,
    fun x => ⟨exec_res_eq (o := .reg x) rfl, exec_set_eq (o := .reg x) rfl⟩, fun hw => ⟨?_, ?_⟩,
    fun _ => exec_resHL_eq_fault, fun _ => exec_setHL_eq_fault⟩⟩
  · exact (exec_res_eq (o := .atHL) hw).trans (congrArg _ (s.setOperand_atHL_took _ _))
  · exact (exec_set_eq (o := .atHL) hw).trans (congrArg _ (s.setOperand_atHL_took _ _))

end Sys2Proof.Machine
end

section
/-! SUPPORT. The accumulator rotates and flag operations (`49_accumulator_misc.md` R340-R347), and DAA's correction in
exact arithmetic (R344). -/

namespace Sys2Proof.Machine

/-- R340-R343: a rotate of A is the extended rotate of its kind, but for Z. -/
theorem opRotA_eq (op : RotOp) (s : State) :
    opRotA op s = .next { s with
      regs := { s.regs with
        a := (rotResult op s.regs.a s.regs.f.c).1,
        f := ⟨false, false, false, (rotResult op s.regs.a s.regs.f.c).2⟩ },
      stepCycles := 1 } := by
  rw [opRotA, rot_eq]
  rfl

/-- R345. -/
theorem exec_cpl_eq (s : State) :
    exec .cpl s = .next { s with
      regs := { s.regs with a := ~~~s.regs.a, f := ⟨s.regs.f.z, true, true, s.regs.f.c⟩ }, stepCycles := 1 } := by
  have hnot : s.regs.a ^^^ 0xFF = ~~~s.regs.a := BitVec.xor_allOnes
  change execCpl s = _
  rw [execCpl, hnot]
  rfl

/-- Settles O47: the rotates are `opRotA_eq`; SCF and CCF are their meaning. -/
theorem accumulatorMisc : Obligations.AccumulatorMisc :=
  ⟨rfl, rfl, rfl, rfl, rfl, rfl, rfl, fun s =>
    ⟨opRotA_eq .rlc s, opRotA_eq .rrc s, opRotA_eq .rl s, opRotA_eq .rr s, exec_cpl_eq s, rfl, rfl⟩⟩

/-! ## Decimal adjust (R344) -/

theorem daaHigh_eq (a : Byte) (f : Flags) :
    daaHigh a f = decide (f.c = true ∨ (f.n = false ∧ 0x99 < a.toNat)) := by
  simp [daaHigh]

theorem daaLow_eq (a : Byte) (f : Flags) :
    daaLow a f = decide (f.h = true ∨ (f.n = false ∧ 9 < a.toNat % 16)) := by
  have hlow : (a &&& 0x0F).toNat = a.toNat % 16 := Nat.and_two_pow_sub_one_eq_mod a.toNat 4
  rw [daaLow, hlow]
  simp

/-- R344: the two corrections share no bit, so their union is their sum. -/
theorem toNat_daaCorr (a : Byte) (f : Flags) : (daaCorr a f).toNat = daaCorrection a.toNat f := by
  have hunion : ∀ x y : Bool, ((if x then 0x60 else 0x00 : Byte) ||| (if y then 0x06 else 0x00)).toNat =
      (if x then 0x60 else 0) + (if y then 0x06 else 0) := by decide
  rw [daaCorr, hunion, daaHigh_eq, daaLow_eq, daaCorrection]
  simp only [decide_eq_true_eq]

/-- R344: the correction is 0x66 at most. -/
theorem daaCorrection_le (a : Nat) (f : Flags) : daaCorrection a f ≤ 0x66 := by
  unfold daaCorrection
  split <;> split <;> omega

theorem toNat_daaValue_add (a : Byte) {f : Flags} (h : f.n = false) :
    (daaValue a f).toNat = (a.toNat + daaCorrection a.toNat f) % 256 := by
  rw [daaValue, h, if_neg Bool.false_ne_true, BitVec.toNat_add, toNat_daaCorr]

theorem toNat_daaValue_sub (a : Byte) {f : Flags} (h : f.n = true) :
    (daaValue a f).toNat = (a.toNat + 256 - daaCorrection a.toNat f) % 256 := by
  have hle := daaCorrection_le a.toNat f
  rw [daaValue, if_pos h, BitVec.toNat_sub, toNat_daaCorr]
  omega

/-- Settles O48: the adjusted A is `daaValue`, whose correction is added or subtracted in exact arithmetic. -/
theorem decimalAdjust : Obligations.DecimalAdjust := by
  refine ⟨rfl, fun s => ⟨daaValue s.regs.a s.regs.f, ?_, toNat_daaValue_add _, toNat_daaValue_sub _⟩⟩
  rw [← daaHigh_eq]
  rfl

end Sys2Proof.Machine
end

section
/-! SUPPORT. The reset values (`70_reset_and_hazards.md` R501, R502) of either launch mode. -/

namespace Sys2Proof.Machine

/-- R502: the register file in START_MODE = POST_BOOT, pair by pair. -/
theorem postBootRegs_pairs : postBootRegs.af = 0x01B0 ∧ postBootRegs.bc = 0x0013 ∧ postBootRegs.de = 0x00D8 ∧
    postBootRegs.hl = 0x014D ∧ postBootRegs.sp = 0xFFFE := by
  decide

/-- R502: the storage I/O registers after a launch in POST_BOOT. -/
theorem read_postBoot_io (a : Nat) :
    Mem.read [(0xFF47, 0xFC)] a = if a = 0xFF47 then 0xFC else 0x00 := by
  simp only [Mem.read, eq_comm]
  rfl

/-- R501: the timer at reset, but for the divider, is that of both modes. -/
theorem State.launch_timer_eq (k : Launch) : ∃ d, (State.launch k).timer = Timer.reset d := by
  simp only [State.launch]
  cases k.startMode with
  | boot => exact ⟨0x0000, rfl⟩
  | postBoot => exact ⟨0xABCC, rfl⟩

/-- Settles O11: `State.launch` in each mode; what does not depend on the mode, for every launch. -/
theorem resetValues : Obligations.ResetValues := by
  refine ⟨?_, ?_, fun k => ?_⟩
  · rintro ⟨⟩ rfl
    exact ⟨rfl, rfl, rfl, rfl, rfl, rfl, fun _ _ _ => rfl⟩
  · rintro ⟨⟩ rfl
    obtain ⟨haf, hbc, hde, hhl, hsp⟩ := postBootRegs_pairs
    exact ⟨haf, hbc, hde, hhl, hsp, rfl, rfl, rfl, rfl, rfl, fun a _ _ => read_postBoot_io a⟩
  · obtain ⟨d, htimer⟩ := State.launch_timer_eq k
    rw [htimer]
    refine ⟨Flags.toByte_and_low _, ?_⟩
    and_intros <;> rfl

end Sys2Proof.Machine
end
